-- ==== Sys2Proof/Word.lean ====
section
/-! DEFINITION. The word types of the Rovanta 7E: data bytes, the 16-bit fields of management replies, 29-bit identifiers
and the part time. Everything else that the manual counts or measures is a Nat or an Int. -/
namespace Sys2Proof

/-- A data byte of a frame. -/
abbrev Byte := BitVec 8

/-- A 16-bit field as READ_FIELD and WRITE_FIELD carry it (R186, R187). -/
abbrev Half := BitVec 16

/-- A 29-bit identifier (section 0.3). -/
abbrev CanId := BitVec 29

/-- Part time: milliseconds from 0 at full reset, modulo 2^32 (R30, R192). -/
abbrev Time := BitVec 32

end Sys2Proof
end

