-- ==== Sys2Proof/Syntax.lean ====
section
/-! DEFINITION. The commands of the block: one constructor for each row of spec/opcode_table.json, with the operands that
come from outside the part. A row whose work comes from inside the part (a hand-off that waits at a block) has none: it
takes what its block has in hand. -/
namespace Sys2Proof

/-- The two CAN ports (section 0.3). -/
inductive Port where
  | a
  | b
  deriving DecidableEq, Repr

/-- The nine signal roles (section 2.1). -/
inductive Role where
  | boomAngle
  | armAngle
  | bucketAngle
  | slewAngle
  | slewRate
  | engineSpeed
  | engineLoad
  | pumpPress1
  | pumpPress2
  deriving DecidableEq, Repr

/-- How a transmission attempt ends (R16). -/
inductive AttemptResult where
  | success
  | failure
  | arbitrationLost
  deriving DecidableEq, Repr

/-- A frame seen on a segment, as the physical layer delivers it (R1): `extended` for a 29-bit identifier, `remote` for a
remote frame, `checkGood` for a valid frame check. -/
structure BusFrame where
  extended : Bool
  remote : Bool
  checkGood : Bool
  ident : CanId
  data : List Byte
  deriving DecidableEq, Repr

/-- The limiter transitions of which the shaping unit is told (table of R89). -/
inductive GainTransition where
  | enterRestricted
  | enterHold
  | release
  | reload
  | fullReset
  deriving DecidableEq, Repr

/-- The commands. -/
inductive Instr where
  /-- RECEIVE_FRAME (R1): a frame is seen on the segment of a port. -/
  | receiveFrame (port : Port) (frame : BusFrame)
  /-- FORWARD_FRAME (R2): the free forwarding engine takes a frame. -/
  | forwardFrame
  /-- DEFERRED_HAND_OFF (R3): the hand-off held back is made. -/
  | deferredHandOff
  /-- ATTEMPT_START (R16): the bus allows a transmission on a port. -/
  | attemptStart (port : Port)
  /-- ATTEMPT_END (R16): the attempt of a port ends. -/
  | attemptEnd (port : Port) (result : AttemptResult)
  /-- BUS_IDLE_TIMEOUT (R22): the bus idle timer of a port reaches 500 ms. -/
  | busIdleTimeout (port : Port)
  /-- SIGNAL_FRAME (R25): the signal unit handles the frame it has in hand. -/
  | signalFrame
  /-- CHECK_ERROR_REPORT (R39): the signal unit handles the report it has in hand. -/
  | checkErrorReport
  /-- TIMEOUT_EXPIRY (R30): the timeout of a role's record expires. -/
  | timeoutExpiry (role : Role)
  /-- HOLD_EXPIRY (R31): the hold time of a role's record expires. -/
  | holdExpiry (role : Role)
  /-- POSITION_COMPUTATION (R52): the position unit computes for the notification it has in hand. -/
  | positionComputation
  /-- SLEW_RATE_UPDATE (R53): the position unit takes up the slew rate for the notification it has in hand. -/
  | slewRateUpdate
  /-- LOSS_NOTIFICATION (R54): the position unit handles the loss it has in hand. -/
  | lossNotification
  /-- DISTANCE_COMPUTATION (R67): the envelope unit computes for the hand-off it has in hand. -/
  | distanceComputation
  /-- ACTIVATION_TEST (R75): the test asked for by a command frame. -/
  | activationTest
  /-- ACTIVATION_TIMEOUT (R77): the 10 s timer of a waiting activation expires. -/
  | activationTimeout
  /-- LIMITER_LEFT_NORMAL (R77): the envelope unit is told that the limiter has left NORMAL. -/
  | limiterLeftNormal
  /-- COMMAND_FRAME (R80): the shaping unit handles the command frame it has in hand. -/
  | commandFrame
  /-- HELD_GAIN_LOWERING (R89): the shaping unit is told of a limiter transition. -/
  | heldGainLowering (transition : GainTransition)
  /-- GRADE_HOLD_CONSOLE (R92): the shaping unit takes its part of the console frame it has in hand. -/
  | gradeHoldConsole
  /-- GUIDANCE_HAND_OFF (R96): the shaping unit takes the oldest hand-off from the position unit. -/
  | guidanceHandOff
  /-- LIMITER_POSITION_TEST (R102): the limiter supervisor takes a position record handed on. -/
  | limiterPositionTest
  /-- FAULT_REPORT (R108): the limiter supervisor takes the oldest fault report. -/
  | faultReport
  /-- STARTUP_TIMER_EXPIRY (R103): the STARTUP timer reaches 5000 ms. -/
  | startupTimerExpiry
  /-- FAULT_ACKNOWLEDGEMENT (R112): the limiter supervisor takes its part of the console frame it has in hand. -/
  | faultAcknowledgement
  /-- ECONOMY_COMMAND_NOTIFY (R124): the economy unit takes the oldest command frame notification. -/
  | economyCommandNotify
  /-- ECONOMY_CONSOLE (R123): the economy unit takes its part of the console frame it has in hand. -/
  | economyConsole
  /-- SLEW_RATE_ACCEPTANCE (R134): the economy unit takes the oldest SLEW_RATE acceptance. -/
  | slewRateAcceptance
  /-- ENGINE_SPEED_ACCEPTANCE (R134): the economy unit takes the oldest ENGINE_SPEED acceptance. -/
  | engineSpeedAcceptance
  /-- ENGINE_SPEED_LOSS (R134): the economy unit takes the loss of ENGINE_SPEED. -/
  | engineSpeedLoss
  /-- AUTO_IDLE_EXPIRY (R132): the auto-idle timer reaches the delay. -/
  | autoIdleExpiry
  /-- LIMP_CHANGE (R128): the economy unit takes the oldest limp change. -/
  | limpChange
  /-- ENGINE_REPLY_TAKEN (R142): the engine request queue takes the reply it has in hand. -/
  | engineReplyTaken
  /-- ENGINE_REQUEST_TIMEOUT (R145): the oldest entry reaches its expiry instant. -/
  | engineRequestTimeout
  /-- ONE_SECOND_TICK (R154): the one-second timer expires. -/
  | oneSecondTick
  /-- CHECKPOINT_INTERVAL (R154): the checkpoint interval count has reached 360. -/
  | checkpointInterval
  /-- REMINDER_EXPIRY (R159): the reminder timer of an item has reached the reminder period. -/
  | reminderExpiry (item : Fin 32)
  /-- SLEW_TRAVEL_ADVANCE (R155): the service unit takes the oldest SLEW_ANGLE notification. -/
  | slewTravelAdvance
  /-- HARD_STOPS_ADVANCE (R156): the service unit takes one hard-stop report. -/
  | hardStopsAdvance
  /-- PWR_WARN_ASSERTED (R166): the PWR_WARN line changes to `level`; true is the assertion. -/
  | pwrWarnAsserted (level : Bool)
  /-- CHECKPOINT_START (R167): the due checkpoint takes its snapshot and begins its write. -/
  | checkpointStart
  /-- CHECKPOINT_COMPLETE (R167): the checkpoint write completes. -/
  | checkpointComplete
  /-- NOTICE_RAISE (R172): the notice unit takes the oldest raise. -/
  | noticeRaise
  /-- NOTICE_CONSOLE (R177): the notice unit takes its part of the console frame it has in hand. -/
  | noticeConsole
  /-- SHORT_FRAME (R183): the management frame in hand is shorter than 8 bytes. -/
  | shortFrame
  /-- UNKNOWN_REQUEST (R184): the request in hand has a code that names no request. -/
  | unknownRequest
  /-- IDENTIFY (R189). -/
  | identify
  /-- READ_FIELD (R186). -/
  | readField
  /-- WRITE_FIELD (R187); `maintEn` is the MAINT_EN line as sampled at the judgement (R184). -/
  | writeField (maintEn : Bool)
  /-- COPY_BANK (R71). -/
  | copyBank
  /-- ACTIVATE_BANK (R73). -/
  | activateBank
  /-- CANCEL (R77). -/
  | cancel
  /-- STORE (R190); `maintEn` as for WRITE_FIELD. -/
  | store (maintEn : Bool)
  /-- STORE_WRITE_START (R190): the configuration area write of a STORE begins. -/
  | storeWriteStart
  /-- STORE_COMPLETE (R190): the configuration area write completes. -/
  | storeComplete
  /-- RELOAD (R193); `maintEn` as for WRITE_FIELD. -/
  | reload (maintEn : Bool)
  /-- RELOAD_READ_START (R193): the configuration area read of a RELOAD begins. -/
  | reloadReadStart
  /-- RELOAD_READ_END (R193): the configuration area read of a RELOAD ends. -/
  | reloadReadEnd
  /-- SERVICE_DONE (R162); `maintEn` as for WRITE_FIELD. -/
  | serviceDone (maintEn : Bool)
  /-- FAULT_RELEASE (R114); `maintEn` as for WRITE_FIELD. -/
  | faultRelease (maintEn : Bool)
  /-- READ_FAULT (R119). -/
  | readFault
  /-- READ_SERVICE_HISTORY (R163). -/
  | readServiceHistory
  /-- READ_STATS (R189). -/
  | readStats
  /-- CLEAR_STATS (R189). -/
  | clearStats
  /-- SET_NOTICE_ENABLE (R180). -/
  | setNoticeEnable
  /-- RESET_ASSERTED (R192). -/
  | resetAsserted
  /-- FULL_RESET (R192): RESET is negated, or power-on; `pwrWarn` is the PWR_WARN line as it then stands (R166). -/
  | fullReset (pwrWarn : Bool)
  /-- START_UP_READS_COMPLETE (R192). -/
  | startUpReadsComplete
  /-- LOSS_OF_POWER (R167). -/
  | lossOfPower
  deriving DecidableEq, Repr

end Sys2Proof
end

