-- ==== Sys2Proof/Decode.lean ====
section
/-! DEFINITION. The words of the commands. The opcode table gives no row any bits: the commands of this block are events,
and a management request arrives as the data of a frame. So no word spells a command. -/
namespace Sys2Proof

/-- The command that a word spells by the bits of the opcode table: none. -/
def decodeTableWord (_nbits _w : Nat) : Option Instr := none

end Sys2Proof
end

