-- ==== Sys2Proof/Machine/Bits.lean ====
section
/-! DEFINITION. Bytes, 16-bit fields, saturating counts and the modular part time. -/
namespace Sys2Proof.Machine

/-- The port that is not `p`. -/
def otherPort (p : Port) : Port :=
  match p with
  | .a => .b
  | .b => .a

/-- Byte `i` of a frame's data; 0 beyond its end. -/
def byteAt (d : List Byte) (i : Nat) : Byte := d.getD i 0

/-- A 16-bit value from its high and low bytes. -/
def half (hi lo : Byte) : Half := hi ++ lo

/-- The 16-bit value at bytes `i` and `i + 1`, high byte first (R195). -/
def halfAt (d : List Byte) (i : Nat) : Half := half (byteAt d i) (byteAt d (i + 1))

/-- The high byte of a 16-bit value. -/
def hiByte (w : Half) : Byte := w.extractLsb' 8 8

/-- The low byte of a 16-bit value. -/
def loByte (w : Half) : Byte := w.extractLsb' 0 8

/-- The two bytes of a 16-bit value, high byte first (R195). -/
def halfBytes (w : Half) : List Byte := [hiByte w, loByte w]

/-- A number as a byte. -/
def byteOf (n : Nat) : Byte := BitVec.ofNat 8 n

/-- A number as a 16-bit field. -/
def halfOf (n : Nat) : Half := BitVec.ofNat 16 n

/-- A signed number as a 16-bit field, in two's complement (R195). -/
def halfOfInt (i : Int) : Half := BitVec.ofInt 16 i

/-- The high field of a value wider than 16 bits: bits 16 and up (R196). -/
def highField (n : Nat) : Half := halfOf (n / 65536)

/-- The low field of a value wider than 16 bits: bits 0 to 15 (R196). -/
def lowField (n : Nat) : Half := halfOf n

/-- A value written as a high field and a low field (R187). -/
def joinFields (hi lo : Half) : Nat := hi.toNat * 65536 + lo.toNat

/-- The four bytes of a 32-bit value, high byte first (R195). -/
def wordBytes (n : Nat) : List Byte := halfBytes (highField n) ++ halfBytes (lowField n)

/-- A flag as a field: 1 for yes, 0 for no (R195). -/
def flagOf (b : Bool) : Nat := if b then 1 else 0

/-- Bit `i` of a byte read by the part. -/
def bitAt (b : Byte) (i : Nat) : Bool := b.getLsbD i

/-- The eight-bit sum of data bytes (section 0.6, R10). -/
def byteSum (d : List Byte) : Byte := d.foldl (· + ·) 0

/-- The byte at `i` set so that the eight-bit sum of the data is 0 (R85, R98, R175). -/
def closeCheck (d : List Byte) (i : Nat) : List Byte :=
  d.set i (0 - byteSum (d.set i 0))

/-- One more on a count that stops at 65535. -/
def countUp (n : Nat) : Nat := min (n + 1) 65535

/-- `k` more on a count that stops at 65535. -/
def countUpBy (n k : Nat) : Nat := min (n + k) 65535

/-- One more on a count that goes from 65535 back to 0. -/
def countWrap (n : Nat) : Nat := (n + 1) % 65536

/-- An advance that stops at 4294967295 (R157). -/
def advance32 (n k : Nat) : Nat := min (n + k) 4294967295

/-- A value brought into `lo` to `hi`. -/
def clampInt (lo hi x : Int) : Int := max lo (min hi x)

/-- The value rounded toward plus infinity of `a / b`, for a positive `b` (section 0.6). -/
def ceilDiv (a b : Int) : Int := -((-a) / b)

/-- The time elapsed from `t` to `now`, modulo 2^32 (R30). -/
def elapsed (now t : Time) : Nat := (now - t).toNat

/-- Whether the part time has reached an instant: it lies less than half the range of the time base ahead of it
(log entry 7; R144, R154). -/
def reached (now instant : Time) : Bool := elapsed now instant < 2147483648

/-- The instant `ms` after `t`, modulo 2^32. -/
def instantAfter (t : Time) (ms : Nat) : Time := t + BitVec.ofNat 32 ms

/-- The tag after `t`: 255 is followed by 1, and 0 is never used (R104, R139). -/
def nextTag (t : Nat) : Nat := if t < 255 then t + 1 else 1

end Sys2Proof.Machine
end

