-- ==== Sys2Proof/Machine/Tables.lean ====
section
/-! DEFINITION. The tables of the configuration image (R182) with their built-in defaults (R191), and the containers by
axis, axis-direction, role and port that they and the blocks use. -/
namespace Sys2Proof.Machine

/-! ## Axes, axis-directions, ports and roles -/

/-- The six axes (section 0.6). -/
inductive Axis where
  | boom
  | arm
  | bucket
  | slew
  | travelL
  | travelR
  deriving DecidableEq, Repr

/-- An axis-direction: an axis and a sign (section 0.6). -/
structure Dir where
  axis : Axis
  negative : Bool
  deriving DecidableEq, Repr

/-- One value for each axis. -/
structure PerAxis (α : Type) where
  boom : α
  arm : α
  bucket : α
  slew : α
  travelL : α
  travelR : α
  deriving DecidableEq, Repr

/-- One value for each sign of an axis. -/
structure Sided (α : Type) where
  pos : α
  neg : α
  deriving DecidableEq, Repr

/-- One value for each axis-direction. -/
abbrev PerDir (α : Type) := PerAxis (Sided α)

/-- One value for each port. -/
structure PerPort (α : Type) where
  a : α
  b : α
  deriving DecidableEq, Repr

/-- One value for each signal role. -/
structure PerRole (α : Type) where
  boomAngle : α
  armAngle : α
  bucketAngle : α
  slewAngle : α
  slewRate : α
  engineSpeed : α
  engineLoad : α
  pumpPress1 : α
  pumpPress2 : α
  deriving DecidableEq, Repr

/-- The axes in the order of their codes (section 12.1). -/
def axes : List Axis := [.boom, .arm, .bucket, .slew, .travelL, .travelR]

/-- The axis-directions in the order of their codes: 2·axis for the positive one, 2·axis + 1 for the negative. -/
def dirs : List Dir := axes.flatMap fun x => [⟨x, false⟩, ⟨x, true⟩]

/-- The roles in the order of their codes. -/
def roles : List Role :=
  [.boomAngle, .armAngle, .bucketAngle, .slewAngle, .slewRate, .engineSpeed, .engineLoad, .pumpPress1, .pumpPress2]

def PerAxis.get (v : PerAxis α) (x : Axis) : α :=
  match x with
  | .boom => v.boom
  | .arm => v.arm
  | .bucket => v.bucket
  | .slew => v.slew
  | .travelL => v.travelL
  | .travelR => v.travelR

/-- The value of each axis by a rule. -/
def PerAxis.tabulate (f : Axis → α) : PerAxis α :=
  ⟨f .boom, f .arm, f .bucket, f .slew, f .travelL, f .travelR⟩

def PerAxis.set (v : PerAxis α) (x : Axis) (y : α) : PerAxis α :=
  PerAxis.tabulate fun z => if z = x then y else v.get z

def PerAxis.toList (v : PerAxis α) : List α := axes.map v.get

/-- The value of an axis-direction. -/
def dirGet (v : PerDir α) (d : Dir) : α := if d.negative then (v.get d.axis).neg else (v.get d.axis).pos

/-- The value of each axis-direction by a rule. -/
def dirTabulate (f : Dir → α) : PerDir α :=
  PerAxis.tabulate fun x => ⟨f ⟨x, false⟩, f ⟨x, true⟩⟩

/-- The same rule applied to each axis-direction. -/
def dirMap (f : α → β) (v : PerDir α) : PerDir β := dirTabulate fun d => f (dirGet v d)

/-- The values in the order of the axis-directions' codes. -/
def dirList (v : PerDir α) : List α := dirs.map (dirGet v)

def PerPort.get (v : PerPort α) (p : Port) : α :=
  match p with
  | .a => v.a
  | .b => v.b

def PerPort.set (v : PerPort α) (p : Port) (x : α) : PerPort α :=
  match p with
  | .a => { v with a := x }
  | .b => { v with b := x }

def PerRole.get (v : PerRole α) (r : Role) : α :=
  match r with
  | .boomAngle => v.boomAngle
  | .armAngle => v.armAngle
  | .bucketAngle => v.bucketAngle
  | .slewAngle => v.slewAngle
  | .slewRate => v.slewRate
  | .engineSpeed => v.engineSpeed
  | .engineLoad => v.engineLoad
  | .pumpPress1 => v.pumpPress1
  | .pumpPress2 => v.pumpPress2

/-- The value of each role by a rule. -/
def PerRole.tabulate (f : Role → α) : PerRole α :=
  ⟨f .boomAngle, f .armAngle, f .bucketAngle, f .slewAngle, f .slewRate, f .engineSpeed, f .engineLoad, f .pumpPress1,
    f .pumpPress2⟩

def PerRole.set (v : PerRole α) (r : Role) (x : α) : PerRole α :=
  PerRole.tabulate fun q => if q = r then x else v.get q

/-! ## FRAME (section 1.2.3) -/

inductive ArrivalPort where
  | a
  | b
  | any
  deriving DecidableEq, Repr

inductive Action where
  | pass
  | drop
  | signal
  | command
  | console
  | engineReply
  deriving DecidableEq, Repr

/-- A frame table entry; a position that is absent is none. -/
structure FrameEntry where
  enabled : Bool
  matchIdent : CanId
  mask : CanId
  arrival : ArrivalPort
  action : Action
  consume : Bool
  counterPos : Option Nat
  checkPos : Option Nat
  offsets : PerAxis (Option Nat)
  minLength : Nat
  deriving DecidableEq, Repr

/-- The built-in default of every frame table entry. -/
def defaultFrameEntry : FrameEntry :=
  { enabled := false, matchIdent := 0, mask := 0, arrival := .any, action := .pass, consume := false, counterPos := none,
    checkPos := none, offsets := PerAxis.tabulate fun _ => none, minLength := 0 }

/-! ## SIGNAL (section 2.2) -/

/-- The role range of section 2.1. -/
def roleMin (r : Role) : Int :=
  match r with
  | .boomAngle => -18000
  | .armAngle => -18000
  | .bucketAngle => -18000
  | .slewRate => -4000
  | _ => 0

def roleMax (r : Role) : Int :=
  match r with
  | .boomAngle => 17999
  | .armAngle => 17999
  | .bucketAngle => 17999
  | .slewAngle => 35999
  | .slewRate => 4000
  | .engineSpeed => 5000
  | .engineLoad => 100
  | .pumpPress1 => 60000
  | .pumpPress2 => 60000

/-- The position signals: the four angles and SLEW_RATE (section 2.1). -/
def isPosition (r : Role) : Bool :=
  match r with
  | .boomAngle => true
  | .armAngle => true
  | .bucketAngle => true
  | .slewAngle => true
  | .slewRate => true
  | _ => false

/-- The four angles, whose acceptance causes a computation (R51). -/
def isAngle (r : Role) : Bool :=
  match r with
  | .boomAngle => true
  | .armAngle => true
  | .bucketAngle => true
  | .slewAngle => true
  | _ => false

structure SignalEntry where
  enabled : Bool
  entry : Nat
  offset : Nat
  lowFirst : Bool
  signed : Bool
  calibration : Int
  validMin : Int
  validMax : Int
  timeout : Nat
  hold : Nat
  deriving DecidableEq, Repr

/-- The built-in timeout of a role (section 2.1). -/
def defaultTimeout (r : Role) : Nat :=
  match r with
  | .engineSpeed => 200
  | .engineLoad => 500
  | .pumpPress1 => 200
  | .pumpPress2 => 200
  | _ => 100

def defaultSignalEntry (r : Role) : SignalEntry :=
  { enabled := false, entry := 0, offset := 0, lowFirst := false, signed := isPosition r, calibration := 0,
    validMin := roleMin r, validMax := roleMax r, timeout := defaultTimeout r, hold := 300 }

/-! ## GEOMETRY and SINE (sections 3.1 and 3.2) -/

structure Geometry where
  boom : Int
  arm : Int
  bucket : Int
  r0 : Int
  h0 : Int
  deriving DecidableEq, Repr

def defaultGeometry : Geometry := ⟨0, 0, 0, 0, 0⟩

/-- The built-in sine table: 32768·sin(k°) rounded to the nearest whole number, and 32767 at 90 (R43). -/
def builtInSine : List Nat :=
  [0, 572, 1144, 1715, 2286, 2856, 3425, 3993, 4560, 5126, 5690, 6252, 6813, 7371, 7927, 8481, 9032, 9580, 10126, 10668]
    ++ [11207, 11743, 12275, 12803, 13328, 13848, 14365, 14876, 15384, 15886, 16384, 16877, 17364, 17847, 18324, 18795]
    ++ [19261, 19720, 20174, 20622, 21063, 21498, 21926, 22348, 22763, 23170, 23571, 23965, 24351, 24730, 25102, 25466]
    ++ [25822, 26170, 26510, 26842, 27166, 27482, 27789, 28088, 28378, 28660, 28932, 29197, 29452, 29698, 29935, 30163]
    ++ [30382, 30592, 30792, 30983, 31164, 31336, 31499, 31651, 31795, 31928, 32052, 32166, 32270, 32365, 32449, 32524]
    ++ [32588, 32643, 32688, 32723, 32748, 32763, 32767]

/-! ## ENVELOPE, PROFILE and HEADER (section 4.1) -/

inductive BankNo where
  | bank0
  | bank1
  deriving DecidableEq, Repr

def otherBank (b : BankNo) : BankNo :=
  match b with
  | .bank0 => .bank1
  | .bank1 => .bank0

inductive EnvelopeKind where
  | slewArc
  | ceiling
  | floor
  | reach
  deriving DecidableEq, Repr

structure EnvelopeEntry where
  enabled : Bool
  kind : EnvelopeKind
  sectorFrom : Nat
  sectorTo : Nat
  limit : Int
  slope : Int
  refRadius : Int
  margin : Int
  profile : Nat
  moves : PerDir Bool
  deriving DecidableEq, Repr

def defaultEnvelopeEntry : EnvelopeEntry :=
  { enabled := false, kind := .slewArc, sectorFrom := 0, sectorTo := 0, limit := 0, slope := 0, refRadius := 0, margin := 0,
    profile := 0, moves := dirTabulate fun _ => false }

/-- A profile: its step count, and the thresholds and gains of its 16 slots. -/
structure Profile where
  count : Nat
  thresholds : List Int
  gains : List Nat
  deriving DecidableEq, Repr

def defaultProfile : Profile := { count := 0, thresholds := List.replicate 16 0, gains := List.replicate 16 0 }

structure BankHeader where
  decel : Int
  rise : Nat
  creep : Nat
  linearTol : Int
  angularTol : Int
  deriving DecidableEq, Repr

def defaultHeader : BankHeader := { decel := 1000, rise := 64, creep := 256, linearTol := 200, angularTol := 200 }

structure Bank where
  header : BankHeader
  entries : List EnvelopeEntry
  profiles : List Profile
  deriving DecidableEq, Repr

def defaultBank : Bank :=
  { header := defaultHeader, entries := List.replicate 16 defaultEnvelopeEntry, profiles := List.replicate 8 defaultProfile }

/-- The entry of a bank by number (an absent number reads as a default entry, which is disabled). -/
def Bank.entryAt (b : Bank) (i : Nat) : EnvelopeEntry := b.entries.getD i defaultEnvelopeEntry

/-- The profile of a bank by number. -/
def Bank.profileAt (b : Bank) (i : Nat) : Profile := b.profiles.getD i defaultProfile

/-! ## ECONOMY (section 7.2) -/

structure EconomySettings where
  idle : Nat
  max : Nat
  limp : Nat
  autoIdleDelay : Nat
  slewStill : Nat
  hysteresis : Nat
  weights : PerAxis Nat
  pointCount : Nat
  demands : List Nat
  speeds : List Nat
  replyTimeout : Nat
  deferralLimit : Nat
  queueDepth : Nat
  deriving DecidableEq, Repr

def defaultDemands : List Nat := [0, 300, 700, 1000, 1000, 1000, 1000, 1000]

def defaultSpeeds : List Nat := [1100, 1400, 1800, 1900, 1900, 1900, 1900, 1900]

def defaultEconomy : EconomySettings :=
  { idle := 900, max := 1900, limp := 1300, autoIdleDelay := 5, slewStill := 50, hysteresis := 25,
    weights := ⟨30, 30, 20, 25, 40, 40⟩, pointCount := 4, demands := defaultDemands, speeds := defaultSpeeds,
    replyTimeout := 250, deferralLimit := 5000, queueDepth := 4 }

/-! ## SERVICE (sections 9.2 and 9.4) -/

structure ServiceSettings where
  running : Int
  weight1 : Nat
  weight2 : Nat
  weight3 : Nat
  weight4 : Nat
  highPressure : Int
  reminder : Nat
  deriving DecidableEq, Repr

def defaultService : ServiceSettings :=
  { running := 400, weight1 := 50, weight2 := 100, weight3 := 150, weight4 := 200, highPressure := 30000, reminder := 3600 }

inductive Basis where
  | engineTime
  | weightedTime
  | highPressTime
  | slewTravel
  | hardStops
  deriving DecidableEq, Repr

/-- The definition of a service item: the fields held in the configuration area. -/
structure ItemDef where
  enabled : Bool
  code : Nat
  basis : Basis
  interval : Nat
  warnAhead : Nat
  grace : Nat
  limp : Bool
  deriving DecidableEq, Repr

def defaultItem : ItemDef :=
  { enabled := false, code := 0, basis := .engineTime, interval := 1, warnAhead := 0, grace := 0, limp := false }

/-! ## IDENTITY (R188) -/

inductive DefaultAction where
  | pass
  | drop
  deriving DecidableEq, Repr

structure Identity where
  request : CanId
  reply : CanId
  guidance : CanId
  notice : CanId
  engineRequest : CanId
  defaultAction : DefaultAction
  deadband : Nat
  guidancePeriod : Nat
  gradeBand : Nat
  deriving DecidableEq, Repr

def defaultIdentity : Identity :=
  { request := 0x0D7A1000, reply := 0x0D7A1001, guidance := 0x0D7A2000, notice := 0x0D7A2100, engineRequest := 0x0C7A3000,
    defaultAction := .pass, deadband := 50, guidancePeriod := 100, gradeBand := 50 }

/-! ## The tables together -/

/-- The configuration image in force (R182): every table, both banks and the active-bank number. -/
structure Tables where
  frame : List FrameEntry
  signal : PerRole SignalEntry
  geometry : Geometry
  sine : List Nat
  bank0 : Bank
  bank1 : Bank
  active : BankNo
  economy : EconomySettings
  service : ServiceSettings
  items : List ItemDef
  identity : Identity
  deriving DecidableEq, Repr

/-- The built-in defaults (R191). -/
def defaultTables : Tables :=
  { frame := List.replicate 64 defaultFrameEntry, signal := PerRole.tabulate defaultSignalEntry, geometry := defaultGeometry,
    sine := builtInSine, bank0 := defaultBank, bank1 := defaultBank, active := .bank0, economy := defaultEconomy,
    service := defaultService, items := List.replicate 32 defaultItem, identity := defaultIdentity }

def Tables.bank (t : Tables) (b : BankNo) : Bank :=
  match b with
  | .bank0 => t.bank0
  | .bank1 => t.bank1

def Tables.setBank (t : Tables) (b : BankNo) (x : Bank) : Tables :=
  match b with
  | .bank0 => { t with bank0 := x }
  | .bank1 => { t with bank1 := x }

/-- The bank used for limits (R57). -/
def Tables.activeBank (t : Tables) : Bank := t.bank t.active

/-- The bank that management writes reach (R57, R69). -/
def Tables.shadowBank (t : Tables) : Bank := t.bank (otherBank t.active)

def Tables.frameEntry (t : Tables) (i : Nat) : FrameEntry := t.frame.getD i defaultFrameEntry

def Tables.item (t : Tables) (i : Nat) : ItemDef := t.items.getD i defaultItem

/-- The geometry is valid when each of its five fields lies within its range (R42). -/
def geometryValid (g : Geometry) : Bool :=
  decide (500 ≤ g.boom ∧ g.boom ≤ 20000 ∧ 500 ≤ g.arm ∧ g.arm ≤ 20000 ∧ 500 ≤ g.bucket ∧ g.bucket ≤ 20000 ∧
    -5000 ≤ g.r0 ∧ g.r0 ≤ 5000 ∧ 0 ≤ g.h0 ∧ g.h0 ≤ 10000)

end Sys2Proof.Machine
end

