-- ==== Sys2Proof/Machine/Blocks.lean ====
section
/-! DEFINITION. The state that each block of the part holds, and its value after full reset. -/
namespace Sys2Proof.Machine

/-! ## Hand-offs -/

/-- The hand-offs of the forwarding engine at one block: the one in hand and the one that waits beside it (R3). -/
structure Inbox (α : Type) where
  inHand : Option α
  waiting : Option α
  deriving DecidableEq, Repr

def emptyInbox : Inbox α := ⟨none, none⟩

/-- A frame as stored: identifier and data bytes; the data length is their number (section 1.1). -/
structure Frame where
  ident : CanId
  data : List Byte
  deriving DecidableEq, Repr

/-! ## Port controllers (sections 1.1, 1.3 to 1.5) -/

inductive Origin where
  | forwarded
  | own
  deriving DecidableEq, Repr

/-- An entry of a transmit queue; `attempting` marks the entry whose attempt is under way (R16). -/
structure TxEntry where
  origin : Origin
  ident : CanId
  data : List Byte
  started : Bool
  attempting : Bool
  deriving DecidableEq, Repr

inductive BusState where
  | onBus
  | busOff
  deriving DecidableEq, Repr

/-- The eight port statistics counters, in the order of R23. -/
structure Stats where
  rxOverflow : Nat
  malformed : Nat
  checkErr : Nat
  repeats : Nat
  seqGap : Nat
  coalesced : Nat
  txDrop : Nat
  busOff : Nat
  deriving DecidableEq, Repr

def clearedStats : Stats := ⟨0, 0, 0, 0, 0, 0, 0, 0⟩

/-- A port controller; the bus idle timer is its start time, none while it does not run. -/
structure PortState where
  rx : List Frame
  tx : List TxEntry
  bus : BusState
  tally : Nat
  idleSince : Option Time
  stats : Stats
  deriving DecidableEq, Repr

def resetPort : PortState := { rx := [], tx := [], bus := .onBus, tally := 0, idleSince := none, stats := clearedStats }

/-! ## Forwarding engine (section 1.2) -/

/-- The screening values of a frame table entry (R12). -/
structure Screening where
  lastCounter : Option Nat
  checkErrors : Nat
  deriving DecidableEq, Repr

def resetScreening : Screening := ⟨none, 0⟩

/-- What the forwarding engine hands to the blocks (R4, R10, R14, R15). `table` of a SIGNAL hand-off is none until a reload
overtakes it, and is then the signal table of before the reload (R7, R194). -/
inductive HandOff where
  | management (port : Port) (data : List Byte)
  | signal (table : Option (PerRole SignalEntry)) (entry : Nat) (frame : Frame) (onward : Option Port)
  | checkError (entry : Nat)
  | command (port : Port) (frame : Frame) (offsets : PerAxis (Option Nat)) (checkPos : Option Nat)
  | console (data : List Byte)
  | engineReply (data : List Byte)
  deriving DecidableEq, Repr

/-- The forwarding engine: the round-robin pointer, the hand-off it holds back (R3), the screening values. -/
structure ForwardState where
  lastServed : Port
  held : Option HandOff
  screening : List Screening
  deriving DecidableEq, Repr

def resetForward : ForwardState := { lastServed := .b, held := none, screening := List.replicate 64 resetScreening }

/-! ## Signal unit (sections 2.4 and 2.7) -/

inductive SignalState where
  | absent
  | fresh
  | holding
  | lost
  deriving DecidableEq, Repr

structure SignalRecord where
  value : Int
  state : SignalState
  accepted : Option Time
  outOfRange : Nat
  deriving DecidableEq, Repr

def resetRecord : SignalRecord := { value := 0, state := .absent, accepted := none, outOfRange := 0 }

/-- What the forwarding engine hands to the signal unit, with the part time of the hand-off. A frame is judged by the
signal table of its hand-off: a write governs the next frame handed over (R24). -/
inductive SignalWork where
  | frame (table : PerRole SignalEntry) (entry : Nat) (data : List Byte) (time : Time)
  | checkError (entry : Nat) (time : Time)
  deriving DecidableEq, Repr

/-- The signal unit: the signal records, the 64 error windows, its hand-offs. -/
structure SignalUnit where
  records : PerRole SignalRecord
  windows : List (List Time)
  inbox : Inbox SignalWork
  deriving DecidableEq, Repr

def resetSignal : SignalUnit :=
  { records := PerRole.tabulate fun _ => resetRecord, windows := List.replicate 64 [], inbox := emptyInbox }

/-! ## Position unit (sections 3.5 and 3.6) -/

structure PositionRecord where
  r : Int
  h : Int
  psi : Int
  omega : Int
  valid : Bool
  clamped : Bool
  computedAt : Option Time
  count : Nat
  deriving DecidableEq, Repr

def resetPosition : PositionRecord :=
  { r := 0, h := 0, psi := 0, omega := 0, valid := false, clamped := false, computedAt := none, count := 0 }

/-- A role accepted from a frame, with its accepted value (R35). -/
structure RoleValue where
  role : Role
  value : Int
  deriving DecidableEq, Repr

/-- A notification of accepted roles with their values, and the latest part time at which one of its frames was handed over
(R35, R51, R52). -/
structure AcceptNote where
  values : List RoleValue
  time : Time
  deriving DecidableEq, Repr

/-- The roles a notification names. -/
def AcceptNote.named (n : AcceptNote) : List Role := n.values.map fun x => x.role

/-- A loss notification: the role and the part time of the expiry (R36). -/
structure LossNote where
  role : Role
  time : Time
  deriving DecidableEq, Repr

inductive PositionWork where
  | accepted (note : AcceptNote)
  | loss (note : LossNote)
  deriving DecidableEq, Repr

/-- The position unit: its record, the notification in hand, the losses that wait, the one waiting notification of
accepted roles (R51). -/
structure PositionUnit where
  record : PositionRecord
  inHand : Option PositionWork
  losses : List LossNote
  waiting : Option AcceptNote
  deriving DecidableEq, Repr

def resetPositionUnit : PositionUnit := { record := resetPosition, inHand := none, losses := [], waiting := none }

/-! ## Limiter supervisor (chapter 6) -/

inductive LimiterState where
  | startup
  | normal
  | restricted
  | hold
  deriving DecidableEq, Repr

inductive FaultKind where
  | positionLost
  | positionClamp
  | envelopeBreach
  | geometryInvalid
  deriving DecidableEq, Repr

/-- A report to the limiter supervisor; `handed` is the position record handed over with a POSITION_CLAMP report (R104), and
`expiredAt` the part time of the expiry by which a position signal passed to LOST, in a report of the signal unit (R36). -/
structure FaultReport where
  kind : FaultKind
  role : Option Role
  entry : Option Nat
  handed : Option PositionRecord
  expiredAt : Option Time
  deriving DecidableEq, Repr

/-- What waits at the limiter supervisor from the other blocks, in the order of its arrival. -/
inductive LimiterEvent where
  | report (r : FaultReport)
  | position (p : PositionRecord)
  deriving DecidableEq, Repr

inductive CloseReason where
  | none
  | acked
  | released
  | reloaded
  deriving DecidableEq, Repr

structure FaultRecord where
  tag : Nat
  kind : FaultKind
  role : Option Role
  entry : Option Nat
  time : Time
  r : Int
  h : Int
  psi : Int
  valid : Bool
  stateBefore : LimiterState
  repeats : Nat
  closed : CloseReason
  deriving DecidableEq, Repr

/-- The limiter supervisor; the STARTUP timer is its start time, none while it is stopped. -/
structure LimiterUnit where
  state : LimiterState
  startupSince : Option Time
  openRecord : Option FaultRecord
  secondRecord : Option FaultRecord
  lastTag : Nat
  history : List FaultRecord
  ackEarly : Nat
  ackMismatch : Nat
  faultInHold : Nat
  events : List LimiterEvent
  inbox : Inbox (List Byte)
  deriving DecidableEq, Repr

def resetLimiter : LimiterUnit :=
  { state := .startup, startupSince := some 0, openRecord := none, secondRecord := none, lastTag := 0, history := [],
    ackEarly := 0, ackMismatch := 0, faultInHold := 0, events := [], inbox := emptyInbox }

/-! ## Envelope unit (sections 4.5 and 4.7) -/

/-- The part of the distance record kept for one entry (R66). -/
structure EntryDistance where
  applicable : Bool
  distance : Int
  breached : Bool
  deriving DecidableEq, Repr

structure DistanceRecord where
  targets : PerDir Nat
  restrictive : PerDir (Option Nat)
  entries : List EntryDistance
  count : Nat
  deriving DecidableEq, Repr

def resetDistance : DistanceRecord :=
  { targets := dirTabulate fun _ => 1024, restrictive := dirTabulate fun _ => none,
    entries := List.replicate 16 ⟨false, 0, false⟩, count := 0 }

/-- A waiting activation: the arrival port and sequence number of ACTIVATE_BANK, the start of its 10 s timer, and whether a
distance computation has found a breach since the request (R78; log entry 39). -/
structure Activation where
  port : Port
  sequence : Byte
  since : Time
  breached : Bool
  deriving DecidableEq, Repr

/-- A hand-off from the position unit. The events for the limiter supervisor travel with it, because the supervisor gets
them after the breach reports of the distance computation (R55; log entry 9). -/
structure EnvelopeHandOff where
  record : PositionRecord
  forLimiter : List LimiterEvent
  deriving DecidableEq, Repr

/-- The envelope unit (the banks stand in the tables); `testAsked` is set while a command frame's test is due (R88). -/
structure EnvelopeUnit where
  distance : DistanceRecord
  activation : Option Activation
  testAsked : Bool
  inbox : Inbox EnvelopeHandOff
  deriving DecidableEq, Repr

def resetEnvelope : EnvelopeUnit :=
  { distance := resetDistance, activation := none, testAsked := false, inbox := emptyInbox }

/-! ## Shaping unit (section 5.1) -/

inductive ShapingWork where
  | command (port : Port) (frame : Frame) (offsets : PerAxis (Option Nat)) (checkPos : Option Nat)
  | console (data : List Byte)
  deriving DecidableEq, Repr

/-- A hand-off of the position record to the shaping unit, with its part time (R96). -/
structure PositionHandOff where
  record : PositionRecord
  time : Time
  deriving DecidableEq, Repr

structure ShapingUnit where
  heldGains : PerDir Nat
  lastRaw : PerAxis Int
  lastShaped : PerAxis Int
  hardStops : PerDir Bool
  clampCount : Nat
  gradeHold : Bool
  inBand : Bool
  activeGrade : Option Nat
  tipToGrade : Option Int
  lastGuidance : Option Time
  guidanceCounter : Nat
  inbox : Inbox ShapingWork
  positions : List PositionHandOff
  deriving DecidableEq, Repr

def resetShaping : ShapingUnit :=
  { heldGains := dirTabulate fun _ => 0, lastRaw := PerAxis.tabulate fun _ => 0, lastShaped := PerAxis.tabulate fun _ => 0,
    hardStops := dirTabulate fun _ => false, clampCount := 0, gradeHold := false, inBand := false, activeGrade := none,
    tipToGrade := none, lastGuidance := none, guidanceCounter := 0, inbox := emptyInbox, positions := [] }

/-! ## Economy unit (section 7.1) -/

inductive PowerMode where
  | eco
  | full
  deriving DecidableEq, Repr

inductive EconomyState where
  | run
  | autoIdle
  | fallback
  deriving DecidableEq, Repr

inductive Reason where
  | dial
  | eco
  | idle
  | limp
  | fallback
  deriving DecidableEq, Repr

/-- A target with its reason (R126, R127). -/
structure Target where
  rpm : Nat
  reason : Reason
  deriving DecidableEq, Repr

/-- A command frame notification: the raw and shaped values of all six axes as they stood at the frame (R87). -/
structure CommandNote where
  raw : PerAxis Int
  shaped : PerAxis Int
  deriving DecidableEq, Repr

/-- A limp change told by the service unit (R160). -/
inductive LimpChange where
  | engage (item : Nat)
  | disengage
  deriving DecidableEq, Repr

/-- The economy unit. The auto-idle timer is its start time, none while stopped. The last five fields hold what other
blocks have handed over and the unit has not yet taken. -/
structure EconomyUnit where
  dial : Option Nat
  mode : PowerMode
  autoIdleOn : Bool
  dialClamps : Nat
  state : EconomyState
  timer : Option Time
  lastSlew : Option Int
  demand : Nat
  limp : Bool
  target : Option Target
  lastIssued : Option Target
  inbox : Inbox (List Byte)
  commands : List CommandNote
  slewRates : List Int
  speeds : List Int
  speedLosses : List Time
  limpChanges : List LimpChange
  deriving DecidableEq, Repr

def resetEconomy : EconomyUnit :=
  { dial := none, mode := .eco, autoIdleOn := false, dialClamps := 0, state := .run, timer := none, lastSlew := none,
    demand := 0, limp := false, target := none, lastIssued := none, inbox := emptyInbox, commands := [], slewRates := [],
    speeds := [], speedLosses := [], limpChanges := [] }

/-! ## Engine request queue (section 8.1) -/

/-- An outstanding request: `second` is attempt 2, `deferred` is status DEFERRED. -/
structure EngineEntry where
  tag : Nat
  target : Target
  issued : Time
  second : Bool
  deferred : Bool
  expiry : Time
  deriving DecidableEq, Repr

structure EngineReply where
  tag : Nat
  status : Nat
  rpm : Nat
  time : Time
  deriving DecidableEq, Repr

structure EngineQueue where
  entries : List EngineEntry
  pendingTarget : Option Target
  lastTag : Nat
  refusals : Nat
  lastReply : Option EngineReply
  skipped : Nat
  stray : Nat
  refused : Nat
  reissued : Nat
  linkFault : Nat
  inbox : Inbox (List Byte)
  deriving DecidableEq, Repr

def resetEngine : EngineQueue :=
  { entries := [], pendingTarget := none, lastTag := 0, refusals := 0, lastReply := none, skipped := 0, stray := 0,
    refused := 0, reissued := 0, linkFault := 0, inbox := emptyInbox }

/-! ## Service unit (section 9.1) -/

structure Totals where
  engineTime : Nat
  weightedTime : Nat
  highPressTime : Nat
  slewTravel : Nat
  hardStops : Nat
  deriving DecidableEq, Repr

def zeroTotals : Totals := ⟨0, 0, 0, 0, 0⟩

def Totals.get (t : Totals) (b : Basis) : Nat :=
  match b with
  | .engineTime => t.engineTime
  | .weightedTime => t.weightedTime
  | .highPressTime => t.highPressTime
  | .slewTravel => t.slewTravel
  | .hardStops => t.hardStops

inductive ItemCondition where
  | ok
  | dueSoon
  | due
  | overdue
  deriving DecidableEq, Repr

/-- The running state of a service item. The reminder timer is none while stopped; `reminderDue` is set from the advance
that brings it to the reminder period until REMINDER_EXPIRY takes it (R159). -/
structure ItemState where
  accumulator : Nat
  services : Nat
  condition : ItemCondition
  reminder : Option Nat
  reminderDue : Bool
  deriving DecidableEq, Repr

def resetItem : ItemState := { accumulator := 0, services := 0, condition := .ok, reminder := none, reminderDue := false }

structure ServiceEntry where
  item : Nat
  code : Nat
  accumulator : Nat
  engineTime : Nat
  time : Time
  deriving DecidableEq, Repr

/-- A held high half of the SERVICE table (R161): the item, the high field it was written to, its value. -/
structure ItemHalf where
  item : Nat
  field : Nat
  value : Half
  deriving DecidableEq, Repr

/-- SLEW_ANGLE in a notification to the service unit: the value accepted before, and the accepted value (R35). -/
structure SlewStep where
  previous : Option Int
  value : Int
  deriving DecidableEq, Repr

/-- A notification to the service unit: SLEW_ANGLE, when it was accepted, and the accepted engine-side roles (R35). -/
structure ServiceNote where
  slew : Option SlewStep
  engine : List RoleValue
  deriving DecidableEq, Repr

/-- The service unit. `nextSecond` is the instant of the next expiry of the one-second timer; `notes` and `hardStopReports`
hold what has been handed over and not yet taken. -/
structure ServiceUnit where
  totals : Totals
  items : List ItemState
  nextSecond : Time
  intervalCount : Nat
  limpHolds : Bool
  history : List ServiceEntry
  heldHigh : Option ItemHalf
  notes : List ServiceNote
  hardStopReports : Nat
  deriving DecidableEq, Repr

def resetService : ServiceUnit :=
  { totals := zeroTotals, items := List.replicate 32 resetItem, nextSecond := 1000, intervalCount := 0, limpHolds := false,
    history := [], heldHigh := none, notes := [], hardStopReports := 0 }

def ServiceUnit.item (v : ServiceUnit) (i : Nat) : ItemState := v.items.getD i resetItem

/-! ## Notice unit (section 10.2) -/

structure SourceState where
  pending : Bool
  enabled : Bool
  argument : Nat
  deriving DecidableEq, Repr

def resetSource : SourceState := ⟨false, true, 0⟩

structure Notice where
  source : Nat
  argument : Nat
  deriving DecidableEq, Repr

/-- What waits at the notice unit from the other blocks, in the order of its arrival: raises (R172). -/
inductive NoticeMessage where
  | raise (source argument : Nat)
  deriving DecidableEq, Repr

structure NoticeUnit where
  sources : List SourceState
  mute : Bool
  slot : Option Notice
  counter : Nat
  mismatches : Nat
  messages : List NoticeMessage
  inbox : Inbox (List Byte)
  deriving DecidableEq, Repr

def resetNotice : NoticeUnit :=
  { sources := List.replicate 44 resetSource, mute := false, slot := none, counter := 0, mismatches := 0, messages := [],
    inbox := emptyInbox }

def NoticeUnit.source (v : NoticeUnit) (i : Nat) : SourceState := v.sources.getD i resetSource

/-! ## Management unit (section 11.1) -/

inductive ProgressKind where
  | activateBank
  | store
  | reload
  deriving DecidableEq, Repr

/-- The request in progress, with its arrival port and sequence number (R185). -/
structure InProgress where
  kind : ProgressKind
  port : Port
  sequence : Byte
  deriving DecidableEq, Repr

/-- The held high half of the FRAME and IDENTITY tables (R187). -/
structure FieldHalf where
  table : Nat
  index : Nat
  field : Nat
  value : Half
  deriving DecidableEq, Repr

/-- A management frame as handed over (R4). -/
structure ManagementFrame where
  port : Port
  data : List Byte
  deriving DecidableEq, Repr

structure ManagementUnit where
  progress : Option InProgress
  heldHigh : Option FieldHalf
  check : Half
  defaultsInUse : Bool
  modified : Bool
  shortFrames : Nat
  inbox : Inbox ManagementFrame
  deriving DecidableEq, Repr

/-- Until the configuration is loaded the configuration check is 0 and defaults in use is no (model's choice: log entry
43). -/
def resetManagement : ManagementUnit :=
  { progress := none, heldHigh := none, check := 0, defaultsInUse := false, modified := false, shortFrames := 0,
    inbox := emptyInbox }

/-! ## Store controller (sections 9.1, 9.6 and 11.5) -/

/-- A bank as the configuration area holds it: 16-bit fields in the order of section 12.5. -/
structure BankImage where
  header : List Half
  entries : List (List Half)
  profiles : List (List Half)
  deriving DecidableEq, Repr

/-- The configuration image as the configuration area holds it (R182): 16-bit fields in the order of section 12.5, so
that a field may also hold a value outside its range (R191). -/
structure ConfigImage where
  frame : List (List Half)
  signal : List (List Half)
  geometry : List Half
  sine : List Half
  bank0 : BankImage
  bank1 : BankImage
  active : Half
  economy : List Half
  service : List Half
  items : List (List Half)
  identity : List Half
  deriving DecidableEq, Repr

/-- The content of the counter area (R164). -/
structure CounterImage where
  totals : Totals
  accumulators : List Nat
  services : List Nat
  history : List ServiceEntry
  faults : List FaultRecord
  deriving DecidableEq, Repr

/-- What the store controller is doing; a write carries its snapshot (R167, R190, R192, R193). -/
inductive StoreActivity where
  | idle
  | writingCounters (snapshot : CounterImage)
  | writingConfig (snapshot : ConfigImage)
  | readingConfig
  | readingStartUp
  deriving DecidableEq, Repr

/-- The configuration area as written: the image and its check (R190). -/
structure StoredConfig where
  image : ConfigImage
  check : Half
  deriving DecidableEq, Repr

/-- The counter area as written: its content and its check (R164). -/
structure StoredCounters where
  image : CounterImage
  check : Half
  deriving DecidableEq, Repr

/-- The store controller and the two nonvolatile areas. An area is none when its stored check has been invalidated, or when
it has never been written: it then fails its check (R165, R167, R190; log entry 10). `checkpointDue` is set
while a checkpoint is to start at once; `storeWaiting` holds the snapshot of a STORE whose write has not begun, and
`reloadWaiting` is set while the read of a RELOAD has not begun. -/
structure StoreUnit where
  configArea : Option StoredConfig
  counterArea : Option StoredCounters
  activity : StoreActivity
  checkpointDue : Bool
  checkpointPending : Bool
  storeWaiting : Option ConfigImage
  reloadWaiting : Bool
  checkpointCount : Nat
  lastCheckpoint : Option Time
  deriving DecidableEq, Repr

/-- The store controller after full reset; the areas are nonvolatile and are given. -/
def resetStore (configArea : Option StoredConfig) (counterArea : Option StoredCounters) : StoreUnit :=
  { configArea := configArea, counterArea := counterArea, activity := .idle, checkpointDue := false,
    checkpointPending := false, storeWaiting := none, reloadWaiting := false, checkpointCount := 0, lastCheckpoint := none }

end Sys2Proof.Machine
end

