-- ==== Sys2Proof/Machine/State.lean ====
section
/-! DEFINITION. The state of the Rovanta 7E: the lines, the part time, the tables in force, the state of each block, and
the queue of commands that wait. -/
namespace Sys2Proof.Machine

/-- Faults. The manual gives the part no command that stops it: every command has an effect, or leaves the state as it
is, so no meaning answers with a fault. -/
inductive Fault where
  deriving DecidableEq, Repr

/-- Refusals. -/
inductive Refusal where
  /-- Raised by exec alone, for a row of the opcode table that has no meaning yet (safe: the machine stops). -/
  | notModelled (mnemonic : String)
  deriving DecidableEq, Repr

/-- Where the part stands (R192): without power, held by RESET, in the start-up reads, or running. -/
inductive Phase where
  | off
  | resetHeld
  | startUp
  | running
  deriving DecidableEq, Repr

/-- The state. -/
structure State where
  /-- The commands that wait, first in, first out. -/
  pending : List Instr
  phase : Phase
  /-- Part time. -/
  now : Time
  /-- The MAINT_EN line as last sampled. -/
  maintEn : Bool
  /-- The PWR_WARN line. -/
  pwrWarn : Bool
  /-- The PILOT_CUT line. -/
  pilotCut : Bool
  cfg : Tables
  ports : PerPort PortState
  fwd : ForwardState
  sig : SignalUnit
  pos : PositionUnit
  env : EnvelopeUnit
  shp : ShapingUnit
  lim : LimiterUnit
  eco : EconomyUnit
  eng : EngineQueue
  svc : ServiceUnit
  ntc : NoticeUnit
  mgt : ManagementUnit
  sto : StoreUnit
  deriving DecidableEq, Repr

/-- Every block as full reset leaves it, with the nonvolatile areas and the sampled lines given (R192): the part time
starts from 0, the start-up reads are in progress, PILOT_CUT is negated. The manual gives the tables, both banks and the
active-bank number as loaded, and the counts and histories as restored; until the start-up reads have ended the model holds
the built-in defaults with BANK0, and 0, empty and OK (model's choice: log entry 44; R57, R168). -/
def State.afterReset (pending : List Instr) (maintEn pwrWarn : Bool) (configArea : Option StoredConfig)
    (counterArea : Option StoredCounters) : State :=
  { pending := pending, phase := .startUp, now := 0, maintEn := maintEn, pwrWarn := pwrWarn, pilotCut := false,
    cfg := defaultTables, ports := ⟨resetPort, resetPort⟩, fwd := resetForward, sig := resetSignal,
    pos := resetPositionUnit, env := resetEnvelope, shp := resetShaping, lim := resetLimiter, eco := resetEconomy,
    eng := resetEngine, svc := resetService, ntc := resetNotice, mgt := resetManagement,
    sto := { resetStore configArea counterArea with activity := .readingStartUp } }

/-- The machine right after full reset (R192), its nonvolatile areas never written (log entry 1). -/
def State.reset : State := State.afterReset [] false false none none

end Sys2Proof.Machine
end

