-- ==== Sys2Proof/Machine/Codes.lean ====
section
/-! DEFINITION. The codes of section 12.1, the statuses of section 12.3, and the notice sources of section 10.1. -/
namespace Sys2Proof.Machine

def portCode (p : Port) : Nat :=
  match p with
  | .a => 0
  | .b => 1

def arrivalCode (p : ArrivalPort) : Nat :=
  match p with
  | .a => 0
  | .b => 1
  | .any => 2

def arrivalOf (n : Nat) : Option ArrivalPort :=
  match n with
  | 0 => some .a
  | 1 => some .b
  | 2 => some .any
  | _ => none

def actionCode (a : Action) : Nat :=
  match a with
  | .pass => 0
  | .drop => 1
  | .signal => 2
  | .command => 3
  | .console => 4
  | .engineReply => 5

def actionOf (n : Nat) : Option Action :=
  match n with
  | 0 => some .pass
  | 1 => some .drop
  | 2 => some .signal
  | 3 => some .command
  | 4 => some .console
  | 5 => some .engineReply
  | _ => none

def roleCode (r : Role) : Nat :=
  match r with
  | .boomAngle => 0
  | .armAngle => 1
  | .bucketAngle => 2
  | .slewAngle => 3
  | .slewRate => 4
  | .engineSpeed => 5
  | .engineLoad => 6
  | .pumpPress1 => 7
  | .pumpPress2 => 8

def roleOf (n : Nat) : Option Role := roles[n]?

def signalStateCode (x : SignalState) : Nat :=
  match x with
  | .absent => 0
  | .fresh => 1
  | .holding => 2
  | .lost => 3

def axisCode (x : Axis) : Nat :=
  match x with
  | .boom => 0
  | .arm => 1
  | .bucket => 2
  | .slew => 3
  | .travelL => 4
  | .travelR => 5

def axisOf (n : Nat) : Option Axis := axes[n]?

/-- 2·axis for the positive direction, 2·axis + 1 for the negative. -/
def dirCode (d : Dir) : Nat := 2 * axisCode d.axis + (if d.negative then 1 else 0)

def kindCode (k : EnvelopeKind) : Nat :=
  match k with
  | .slewArc => 0
  | .ceiling => 1
  | .floor => 2
  | .reach => 3

def kindOf (n : Nat) : Option EnvelopeKind :=
  match n with
  | 0 => some .slewArc
  | 1 => some .ceiling
  | 2 => some .floor
  | 3 => some .reach
  | _ => none

def bankCode (b : BankNo) : Nat :=
  match b with
  | .bank0 => 0
  | .bank1 => 1

def bankOf (n : Nat) : Option BankNo :=
  match n with
  | 0 => some .bank0
  | 1 => some .bank1
  | _ => none

def limiterCode (x : LimiterState) : Nat :=
  match x with
  | .startup => 0
  | .normal => 1
  | .restricted => 2
  | .hold => 3

def faultCode (k : FaultKind) : Nat :=
  match k with
  | .positionLost => 1
  | .positionClamp => 2
  | .envelopeBreach => 3
  | .geometryInvalid => 4

def closeCode (c : CloseReason) : Nat :=
  match c with
  | .none => 0
  | .acked => 1
  | .released => 2
  | .reloaded => 3

def economyCode (x : EconomyState) : Nat :=
  match x with
  | .run => 0
  | .autoIdle => 1
  | .fallback => 2

def modeCode (m : PowerMode) : Nat :=
  match m with
  | .eco => 0
  | .full => 1

def reasonCode (r : Reason) : Nat :=
  match r with
  | .dial => 1
  | .eco => 2
  | .idle => 3
  | .limp => 4
  | .fallback => 5

def basisCode (b : Basis) : Nat :=
  match b with
  | .engineTime => 0
  | .weightedTime => 1
  | .highPressTime => 2
  | .slewTravel => 3
  | .hardStops => 4

def basisOf (n : Nat) : Option Basis :=
  match n with
  | 0 => some .engineTime
  | 1 => some .weightedTime
  | 2 => some .highPressTime
  | 3 => some .slewTravel
  | 4 => some .hardStops
  | _ => none

def conditionCode (c : ItemCondition) : Nat :=
  match c with
  | .ok => 0
  | .dueSoon => 1
  | .due => 2
  | .overdue => 3

def defaultActionCode (a : DefaultAction) : Nat :=
  match a with
  | .pass => 0
  | .drop => 1

def defaultActionOf (n : Nat) : Option DefaultAction :=
  match n with
  | 0 => some .pass
  | 1 => some .drop
  | _ => none

/-- A flag written as a field: 0 or 1, and nothing else lies in its range (R195). -/
def flagFrom (n : Nat) : Option Bool :=
  match n with
  | 0 => some false
  | 1 => some true
  | _ => none

/-- A one-byte index, entry number or role that is none reads 255 (R196). -/
def orAbsent (n : Option Nat) : Nat := n.getD 255

/-- Reply statuses (section 12.3). -/
inductive Status where
  | ok
  | busy
  | locked
  | badCode
  | badTable
  | badIndex
  | badValue
  | notAllowed
  | timeout
  | cancelled
  deriving DecidableEq, Repr

def statusCode (x : Status) : Nat :=
  match x with
  | .ok => 0
  | .busy => 1
  | .locked => 2
  | .badCode => 3
  | .badTable => 4
  | .badIndex => 5
  | .badValue => 6
  | .notAllowed => 7
  | .timeout => 8
  | .cancelled => 9

/-! Notice sources by number (section 10.1); sources 12 to 43 are the service items. -/

def srcHoldEntered : Nat := 0
def srcPositionFault : Nat := 1
def srcEnvelopeBreach : Nat := 2
def srcConfigInvalid : Nat := 3
def srcEngineLinkLost : Nat := 4
def srcLimpActive : Nat := 5
def srcServiceCountsLost : Nat := 6
def srcEngineRefused : Nat := 7
def srcSignalDegraded : Nat := 8
def srcGradeReached : Nat := 9
def srcBankActivated : Nat := 10
def srcPortBusOff : Nat := 11
def srcItem (item : Nat) : Nat := 12 + item

/-- Sources 0 to 3 are non-maskable (R171). -/
def maskable (source : Nat) : Bool := 4 ≤ source

end Sys2Proof.Machine
end

