-- ==== Sys2Proof/Machine/Flags.lean ====
section
/-! DEFINITION. The conditions that the blocks read from one another's state: freshness (R34), the limiter's condition
(R111), neutral axes (section 0.6), item states (R158), the limp condition (R160). -/
namespace Sys2Proof.Machine

/-- A role is usable: FRESH or HOLDING (R34). -/
def usable (r : SignalRecord) : Bool :=
  match r.state with
  | .fresh => true
  | .holding => true
  | _ => false

/-- A role is fresh (R34). -/
def isFresh (r : SignalRecord) : Bool :=
  match r.state with
  | .fresh => true
  | _ => false

def positionRoles : List Role := [.boomAngle, .armAngle, .bucketAngle, .slewAngle, .slewRate]

/-- The roles of which the service unit is notified beside SLEW_ANGLE (R35). -/
def engineRoles : List Role := [.engineSpeed, .engineLoad, .pumpPress1, .pumpPress2]

/-- All five position signals are usable (R34). -/
def positionUsable (v : PerRole SignalRecord) : Bool := positionRoles.all fun r => usable (v.get r)

/-- All five position signals are FRESH (R34). -/
def positionFresh (v : PerRole SignalRecord) : Bool := positionRoles.all fun r => isFresh (v.get r)

/-- Engine running: ENGINE_SPEED is usable and at or above the running threshold (R34). -/
def engineRunning (s : State) : Bool :=
  usable s.sig.records.engineSpeed && decide (s.cfg.service.running ≤ s.sig.records.engineSpeed.value)

/-- A breach is present while the breached set is not empty (section 4.5). -/
def breachPresent (d : DistanceRecord) : Bool := d.entries.any fun e => e.breached

/-- The parts of R111 after its first: the record valid and unclamped, and no breach present. -/
def conditionClear (s : State) : Bool :=
  s.pos.record.valid && !s.pos.record.clamped && !breachPresent s.env.distance

/-- The condition of the supervisor is absent (R111). -/
def conditionAbsent (s : State) : Bool := positionFresh s.sig.records && conditionClear s

/-- An axis is neutral when the magnitude of its raw value is within the deadband (section 0.6). -/
def neutral (deadband : Nat) (raw : Int) : Bool := raw.natAbs ≤ deadband

/-- All six axes neutral. -/
def allNeutral (deadband : Nat) (raw : PerAxis Int) : Bool := raw.toList.all (neutral deadband)

/-- The part of an axis value that presses an axis-direction: its sign, and a magnitude above the deadband (R90). -/
def pressing (deadband : Nat) (raw : Int) (d : Dir) : Bool :=
  (if d.negative then decide (raw < 0) else decide (0 < raw)) && !neutral deadband raw

/-- The state of an item (R158). `A < I − W` is read as `A + W < I`. -/
def itemCondition (d : ItemDef) (a : Nat) : ItemCondition :=
  if a + d.warnAhead < d.interval then .ok
  else if a < d.interval then .dueSoon
  else if a < d.interval + d.grace then .due
  else .overdue

/-- DUE or OVERDUE, the states in which a reminder timer runs (R159). -/
def reminding (c : ItemCondition) : Bool :=
  match c with
  | .due => true
  | .overdue => true
  | _ => false

/-- One state is worse than another (R158). -/
def worse (new old : ItemCondition) : Bool := conditionCode old < conditionCode new

/-- The lowest-numbered enabled item with its limp flag that is OVERDUE (R160). -/
def limpItem (s : State) : Option Nat :=
  (List.range 32).find? fun i =>
    (s.cfg.item i).enabled && (s.cfg.item i).limp && decide ((s.svc.item i).condition = .overdue)

/-- ψ lies in the sector of an entry (R58). -/
def inSector (psi : Int) (e : EnvelopeEntry) : Bool :=
  let span : Int := ((e.sectorTo : Int) - e.sectorFrom) % 36000
  let pos : Int := (psi - e.sectorFrom) % 36000
  match e.kind with
  | .slewArc => decide (pos ≤ span)
  | _ => decide (pos ≤ span) || decide (e.sectorFrom = e.sectorTo)

/-- A report matches a record: the same kind, role and entry (R108). -/
def matchesRecord (r : FaultReport) (f : FaultRecord) : Bool :=
  decide (r.kind = f.kind ∧ r.role = f.role ∧ r.entry = f.entry)

/-- A source is eligible: non-maskable, or enabled while mute is off (R173). -/
def eligible (v : NoticeUnit) (i : Nat) : Bool := !maskable i || ((v.source i).enabled && !v.mute)

end Sys2Proof.Machine
end

