-- ==== Sys2Proof/Machine/Ops.lean ====
section
/-! DEFINITION. The operations that the blocks share: hand-offs, offers to a transmit queue, raises, reports, replies,
checkpoint requests. -/
namespace Sys2Proof.Machine

/-- What a meaning answers. -/
abbrev Result := Host.Outcome State Fault Refusal

/-- The event takes place while the part runs; otherwise nothing happens (R192; log entry 3). -/
def whileRunning (s : State) (f : State → State) : Result :=
  .next (if s.phase = .running then f s else s)

/-- The event takes place while the part is powered and RESET is not asserted: the transmit side and the lines are active
during the start-up reads (R192). -/
def whileActive (s : State) (f : State → State) : Result :=
  .next (if s.phase = .running ∨ s.phase = .startUp then f s else s)

/-! ## Hand-offs (R3) -/

/-- The block can take a hand-off: it has none in hand, or none waiting. -/
def Inbox.accepts (b : Inbox α) : Bool := b.inHand.isNone || b.waiting.isNone

/-- The hand-off is taken in hand by a free block, and otherwise waits. -/
def Inbox.put (b : Inbox α) (x : α) : Inbox α :=
  match b.inHand with
  | none => { b with inHand := some x }
  | some _ => { b with waiting := some x }

/-- The work in hand is finished, and the waiting hand-off is taken in hand. -/
def Inbox.finish (b : Inbox α) : Inbox α := ⟨b.waiting, none⟩

/-! ## Offers to a transmit queue (R17 to R19) -/

/-- R17: the first waiting entry of the same origin and identifier takes the frame's data, in its place. -/
def coalesce (o : Origin) (f : Frame) : List TxEntry → Option (List TxEntry)
  | [] => none
  | e :: es =>
    if e.origin = o ∧ e.ident = f.ident ∧ e.started = false then some ({ e with data := f.data } :: es)
    else (coalesce o f es).map (e :: ·)

/-- R19: the queue without its newest waiting forwarded entry. -/
def dropNewestForwarded : List TxEntry → Option (List TxEntry)
  | [] => none
  | e :: es =>
    match dropNewestForwarded es with
    | some es' => some (e :: es')
    | none => if e.origin = .forwarded ∧ e.started = false then some es else none

def newEntry (o : Origin) (f : Frame) : TxEntry :=
  { origin := o, ident := f.ident, data := f.data, started := false, attempting := false }

/-- How many entries of a queue are forwarded ones. -/
def forwardedCount (q : List TxEntry) : Nat := q.countP fun e => decide (e.origin = .forwarded)

def countDrop (st : Stats) (k : Nat) : Stats := { st with txDrop := countUpBy st.txDrop k }

/-- A frame is offered to the transmit queue of a port (R17, R18, R19, R22). -/
def offerTo (p : PortState) (o : Origin) (f : Frame) : PortState :=
  match p.bus with
  | .busOff => { p with stats := countDrop p.stats 1 }
  | .onBus =>
    match coalesce o f p.tx with
    | some q => { p with tx := q, stats := { p.stats with coalesced := countUp p.stats.coalesced } }
    | none =>
      match o with
      | .forwarded =>
        if forwardedCount p.tx < 28 ∧ p.tx.length < 32 then { p with tx := p.tx ++ [newEntry o f] }
        else { p with stats := countDrop p.stats 1 }
      | .own =>
        if p.tx.length < 32 then { p with tx := p.tx ++ [newEntry o f] }
        else
          match dropNewestForwarded p.tx with
          | some q => { p with tx := q ++ [newEntry o f], stats := countDrop p.stats 1 }
          | none => { p with stats := countDrop p.stats 1 }

/-- A frame is offered to the transmit queue of port `p`. -/
def State.offer (s : State) (p : Port) (o : Origin) (f : Frame) : State :=
  { s with ports := s.ports.set p (offerTo (s.ports.get p) o f) }

/-- A frame the part composes: its bytes, filled with 0 to a data length of 8 (R195). -/
def composed (ident : CanId) (bytes : List Byte) : Frame := ⟨ident, (bytes ++ List.replicate 8 0).take 8⟩

/-- A frame the part composes whose byte 7 is its check byte. -/
def composedChecked (ident : CanId) (bytes : List Byte) : Frame :=
  ⟨ident, closeCheck ((bytes ++ List.replicate 8 0).take 8) 7⟩

/-! ## Raises, reports and replies -/

/-- A source is raised: the notice unit gets its number and an argument (R172). -/
def State.raise (s : State) (source argument : Nat) : State :=
  { s with ntc := { s.ntc with messages := s.ntc.messages ++ [.raise source argument] } }

/-- A fault is reported to the limiter supervisor (section 6.3). -/
def State.report (s : State) (r : FaultReport) : State :=
  { s with lim := { s.lim with events := s.lim.events ++ [.report r] } }

/-- The reply frame: the code with its top bit set, the sequence number, the status, five result bytes (R183). -/
def replyFrame (ident : CanId) (code sequence : Byte) (st : Status) (results : List Byte) : Frame :=
  composed ident ([code ||| 128, sequence, byteOf (statusCode st)] ++ results)

/-- A reply is composed and offered to the port of arrival (R183). -/
def State.reply (s : State) (p : Port) (code sequence : Byte) (st : Status) (results : List Byte) : State :=
  s.offer p .own (replyFrame s.cfg.identity.reply code sequence st results)

/-! ## Checkpoint requests (R166) -/

/-- The store controller is free: neither area is being written or read, and no write or read is about to begin. -/
def StoreUnit.free (v : StoreUnit) : Bool :=
  decide (v.activity = .idle) && v.storeWaiting.isNone && !v.reloadWaiting

/-- A checkpoint is requested: it starts at once when the store controller is free, is absorbed by one that is about to
start, and becomes the pending checkpoint otherwise (R166; log entry 11). -/
def requestCheckpoint (v : StoreUnit) : StoreUnit :=
  if v.checkpointDue then v
  else if v.free && !v.checkpointPending then { v with checkpointDue := true }
  else { v with checkpointPending := true }

def State.requestCheckpoint (s : State) : State := { s with sto := Machine.requestCheckpoint s.sto }

/-- A write or a read of an area has ended: a pending checkpoint starts at once, unless a STORE waits (R166, R167). -/
def pendingStarts (v : StoreUnit) : StoreUnit :=
  if v.checkpointPending && v.storeWaiting.isNone then { v with checkpointDue := true } else v

/-! ## Held gains at a limiter transition (R89) -/

/-- The held gains after a limiter transition (table of R89). -/
def loweredGains (t : GainTransition) (creep : Nat) (g : PerDir Nat) : PerDir Nat :=
  match t with
  | .enterRestricted => dirMap (min · creep) g
  | .enterHold => dirMap (fun _ => 0) g
  | .release => dirMap (fun _ => 0) g
  | .reload => dirMap (min · creep) g
  | .fullReset => dirMap (fun _ => 0) g

/-- The shaping unit is told of a limiter transition and changes all twelve held gains at once. -/
def State.lowerGains (s : State) (t : GainTransition) : State :=
  { s with shp := { s.shp with heldGains := loweredGains t s.cfg.activeBank.header.creep s.shp.heldGains } }

/-! ## The end of a waiting activation (R76, R77) -/

/-- The waiting activation ends, the request in progress becomes none, and ACTIVATE_BANK (code 5) is answered on its
arrival port. Without a waiting activation nothing happens. -/
def State.endActivation (s : State) (st : Status) : State :=
  match s.env.activation with
  | none => s
  | some a =>
    { s with env := { s.env with activation := none, testAsked := false }, mgt := { s.mgt with progress := none } }.reply
      a.port 5 a.sequence st []

/-! ## Notifications of the signal unit (R35, R36) -/

/-- Two notifications of accepted roles as one, which names every role of either; a role of both keeps the value accepted
last (R51; log entry 46). -/
def AcceptNote.join (w n : AcceptNote) : AcceptNote :=
  ⟨(w.values.filter fun x => !n.named.contains x.role) ++ n.values, n.time⟩

/-- R51: a notification of accepted roles is taken in hand by a free position unit, and otherwise waits or is joined with
the one that waits. -/
def PositionUnit.notify (u : PositionUnit) (n : AcceptNote) : PositionUnit :=
  match u.inHand with
  | none => { u with inHand := some (.accepted n) }
  | some _ =>
    match u.waiting with
    | none => { u with waiting := some n }
    | some w => { u with waiting := some (w.join n) }

/-- R51: a loss notification is taken in hand by a free position unit, and otherwise waits in order. -/
def PositionUnit.notifyLoss (u : PositionUnit) (n : LossNote) : PositionUnit :=
  match u.inHand with
  | none => { u with inHand := some (.loss n) }
  | some _ => { u with losses := u.losses ++ [n] }

/-- R51: the notification in hand is finished; a loss that waits is taken before a waiting notification of accepted
roles. -/
def PositionUnit.finish (u : PositionUnit) : PositionUnit :=
  match u.losses with
  | l :: rest => { u with inHand := some (.loss l), losses := rest }
  | [] => { u with inHand := u.waiting.map .accepted, waiting := none }

/-- R36: a record has passed to LOST by an expiry at part time `now` (log entry 47); the blocks concerned are notified of it, and
of that part time. -/
def State.notifyLost (s : State) (r : Role) : State :=
  if isPosition r then
    { s with pos := s.pos.notifyLoss ⟨r, s.now⟩ }.report ⟨.positionLost, some r, none, none, some s.now⟩
  else if r = .engineSpeed then
    { s with eco := { s.eco with speedLosses := s.eco.speedLosses ++ [s.now] } }
  else s

/-! ## Hand-offs of the position unit (R55, R67) -/

/-- R67: a hand-off is taken in hand by a free envelope unit; while one is in hand a later one replaces the waiting one,
and the events for the limiter supervisor are kept. -/
def Inbox.replace (b : Inbox EnvelopeHandOff) (x : EnvelopeHandOff) : Inbox EnvelopeHandOff :=
  match b.inHand with
  | none => { b with inHand := some x }
  | some _ =>
    match b.waiting with
    | none => { b with waiting := some x }
    | some w => { b with waiting := some ⟨x.record, w.forLimiter ++ x.forLimiter⟩ }

/-- The record is handed to the envelope unit, with what follows for the limiter supervisor. -/
def State.toEnvelope (s : State) (forLimiter : List LimiterEvent) : State :=
  { s with env := { s.env with inbox := s.env.inbox.replace ⟨s.pos.record, forLimiter⟩ } }

/-- The record is handed to the shaping unit, with the part time at which it is handed over. R96 and R97 speak of the part time,
the grade and the settings at the hand-off, and do not say whether that is the hand-over or the taking when the hand-off
waits: the part time is that of the hand-over (model's choice: log entry 45). -/
def State.toShaping (s : State) : State :=
  { s with shp := { s.shp with positions := s.shp.positions ++ [⟨s.pos.record, s.now⟩] } }

end Sys2Proof.Machine
end

