-- ==== Sys2Proof/Machine/Operands.lean ====
section
/-! DEFINITION. The operand forms: what the part reads from the bytes of a frame (section 12.2), and what it writes into
them. -/
namespace Sys2Proof.Machine

/-! ## Console and engine reply frames (section 12.2) -/

/-- The dial: bytes 0 and 1, unsigned (R123). -/
def consoleDial (d : List Byte) : Nat := (halfAt d 0).toNat

/-- Byte 2 bit 0: power mode, ECO 0, FULL 1. -/
def consoleMode (d : List Byte) : PowerMode := if bitAt (byteAt d 2) 0 then .full else .eco

/-- Byte 2 bit 1: auto-idle enabled. -/
def consoleAutoIdle (d : List Byte) : Bool := bitAt (byteAt d 2) 1

/-- Byte 2 bit 2: grade hold. -/
def consoleGradeHold (d : List Byte) : Bool := bitAt (byteAt d 2) 2

/-- Byte 2 bit 3: mute. -/
def consoleMute (d : List Byte) : Bool := bitAt (byteAt d 2) 3

/-- Byte 3: notice acknowledgement source; 255 is none. -/
def consoleNoticeAck (d : List Byte) : Nat := (byteAt d 3).toNat

/-- Byte 4: fault acknowledgement tag; 0 is none. -/
def consoleFaultTag (d : List Byte) : Nat := (byteAt d 4).toNat

def replyTag (d : List Byte) : Nat := (byteAt d 0).toNat

/-- Byte 1: ACCEPTED 1, DEFERRED 2, REFUSED 3, or none of the three. -/
def replyStatus (d : List Byte) : Nat := (byteAt d 1).toNat

def replyRpm (d : List Byte) : Nat := (halfAt d 2).toNat

/-! ## Signals (R26, R27) -/

/-- The two bytes of a role, by its byte order (R26). -/
def rawHalf (e : SignalEntry) (d : List Byte) : Half :=
  if e.lowFirst then half (byteAt d (e.offset + 1)) (byteAt d e.offset) else halfAt d e.offset

/-- The raw value: unsigned, or in two's complement (R26). -/
def rawValue (e : SignalEntry) (d : List Byte) : Int :=
  if e.signed then (rawHalf e d).toInt else ((rawHalf e d).toNat : Int)

/-- The calibrated value; SLEW_ANGLE is reduced modulo 36000 (R27). -/
def calibrated (r : Role) (e : SignalEntry) (d : List Byte) : Int :=
  match r with
  | .slewAngle => (rawValue e d + e.calibration) % 36000
  | _ => rawValue e d + e.calibration

/-- The value accepted for a role from a frame: none when the frame is too short for its second byte (R26) or the
calibrated value lies outside the valid window (R28). -/
def acceptedValue (r : Role) (e : SignalEntry) (d : List Byte) : Option Int :=
  if d.length ≤ e.offset + 1 then none
  else
    let v := calibrated r e d
    if e.validMin ≤ v ∧ v ≤ e.validMax then some v else none

/-! ## Axis values (R81, R85) -/

/-- The axis value at an offset, signed, high byte first (R81). -/
def axisValue (d : List Byte) (offset : Nat) : Int := (halfAt d offset).toInt

/-- The raw value: the axis value clamped to −1000 to 1000 (R81). -/
def clampAxis (v : Int) : Int := clampInt (-1000) 1000 v

/-- A value written at an offset, high byte first (R85). -/
def putHalf (d : List Byte) (offset : Nat) (v : Int) : List Byte :=
  (d.set offset (hiByte (halfOfInt v))).set (offset + 1) (loByte (halfOfInt v))

/-- The raw values of the present axes of a command frame. -/
def rawValues (offsets : PerAxis (Option Nat)) (d : List Byte) : PerAxis (Option Int) :=
  PerAxis.tabulate fun x => (offsets.get x).map fun o => clampAxis (axisValue d o)

/-- How many axes of a command frame are clamped (R81). -/
def clampedAxes (offsets : PerAxis (Option Nat)) (d : List Byte) : Nat :=
  axes.countP fun x =>
    match offsets.get x with
    | none => false
    | some o => decide (clampAxis (axisValue d o) ≠ axisValue d o)

/-- The shaped values written back at the offsets of the present axes (R85). -/
def putAxes (offsets : PerAxis (Option Nat)) (shaped : PerAxis (Option Int)) (d : List Byte) : List Byte :=
  axes.foldl (fun d x =>
    match offsets.get x, shaped.get x with
    | some o, some v => putHalf d o v
    | _, _ => d) d

/-- An entry names at least one present axis (R80). -/
def anyAxis (offsets : PerAxis (Option Nat)) : Bool := axes.any fun x => (offsets.get x).isSome

/-- The rewritten data of a command frame: shaped values, then the check byte (R85); data of a frame without a present
axis is unchanged (R80). -/
def rewritten (offsets : PerAxis (Option Nat)) (checkPos : Option Nat) (shaped : PerAxis (Option Int)) (d : List Byte) :
    List Byte :=
  if anyAxis offsets then
    match checkPos with
    | none => putAxes offsets shaped d
    | some c => closeCheck (putAxes offsets shaped d) c
  else d

/-! ## Management requests (section 12.3) -/

/-- The request code: byte 0. -/
def requestCode (d : List Byte) : Nat := (byteAt d 0).toNat

/-- Byte `i` of a request, as a number. -/
def requestByte (d : List Byte) (i : Nat) : Nat := (byteAt d i).toNat

/-- The value of WRITE_FIELD: bytes 6 and 7. -/
def requestValue (d : List Byte) : Half := halfAt d 6

end Sys2Proof.Machine
end

