-- ==== Sys2Proof/Machine/Signals.lean ====
section
/-! DEFINITION. The signal unit: acceptance (R25 to R29), freshness (R30 to R33), notifications (R35, R36), degraded links
(R39). -/
namespace Sys2Proof.Machine

/-- The role is enabled and names the entry of the frame (R25). -/
def handles (t : PerRole SignalEntry) (entry : Nat) (r : Role) : Bool :=
  (t.get r).enabled && decide ((t.get r).entry = entry)

/-- The value a handled role accepts from the frame (R26 to R28). -/
def taken (t : PerRole SignalEntry) (entry : Nat) (d : List Byte) (r : Role) : Option Int :=
  if handles t entry r then acceptedValue r (t.get r) d else none

/-- A record after the frame: the acceptance or the refusal of R28; a role not handled keeps its record. -/
def judgedRecord (t : PerRole SignalEntry) (entry : Nat) (d : List Byte) (time : Time) (old : PerRole SignalRecord) (r : Role) :
    SignalRecord :=
  if handles t entry r then
    match acceptedValue r (t.get r) d with
    | some v => { old.get r with value := v, state := .fresh, accepted := some time }
    | none => { old.get r with outOfRange := countUp (old.get r).outOfRange }
  else old.get r

/-- Those of the given roles that are accepted from the frame, with their values (R35). -/
def takenOf (t : PerRole SignalEntry) (entry : Nat) (d : List Byte) (roles : List Role) : List RoleValue :=
  roles.filterMap fun r => (taken t entry d r).map (RoleValue.mk r)

/-- The value accepted before this one; none when the record was ABSENT (R35). -/
def previousValue (r : SignalRecord) : Option Int :=
  match r.state with
  | .absent => none
  | _ => some r.value

/-- A notification of the position unit, which is made when a position signal has been accepted (R35). -/
def PositionUnit.accept (u : PositionUnit) (vs : List RoleValue) (time : Time) : PositionUnit :=
  if vs = [] then u else u.notify ⟨vs, time⟩

/-- The notification of the service unit for a frame: SLEW_ANGLE with the value accepted before it, and the engine-side
roles (R35). -/
def serviceNote (t : PerRole SignalEntry) (entry : Nat) (d : List Byte) (old : PerRole SignalRecord) : ServiceNote :=
  { slew := (taken t entry d .slewAngle).map (SlewStep.mk (previousValue old.slewAngle))
    engine := takenOf t entry d engineRoles }

/-- A notification of the service unit waits until it is taken; one that names no role is not made (R35; log entry 46). -/
def ServiceUnit.accept (v : ServiceUnit) (n : ServiceNote) : ServiceUnit :=
  if n.slew = none ∧ n.engine = [] then v else { v with notes := v.notes ++ [n] }

/-- R35: the blocks concerned are notified once for the frame, with the accepted values. -/
def notifyAccepted (t : PerRole SignalEntry) (entry : Nat) (d : List Byte) (time : Time) (old : PerRole SignalRecord) (s : State) : State :=
  { s with
    pos := s.pos.accept (takenOf t entry d positionRoles) time
    svc := s.svc.accept (serviceNote t entry d old)
    eco := { s.eco with
      slewRates := s.eco.slewRates ++ (taken t entry d .slewRate).toList
      speeds := s.eco.speeds ++ (taken t entry d .engineSpeed).toList } }

/-- All roles of a frame are judged, by the signal table of its hand-off, before any block is notified (R24, R25). -/
def handleSignalFrame (t : PerRole SignalEntry) (entry : Nat) (d : List Byte) (time : Time) (s : State) : State :=
  notifyAccepted t entry d time s.sig.records
    { s with sig := { s.sig with records := PerRole.tabulate (judgedRecord t entry d time s.sig.records) } }

def State.finishSignal (s : State) : State := { s with sig := { s.sig with inbox := s.sig.inbox.finish } }

def execSignalFrame (s : State) : Result :=
  whileRunning s fun s =>
    match s.sig.inbox.inHand with
    | some (.frame t entry d time) => handleSignalFrame t entry d time s.finishSignal
    | _ => s

/-- An error window after a report at `t`: times 1000 ms old or older are removed, and `t` is added (R39). -/
def pruned (t : Time) (w : List Time) : List Time := (w.filter fun t' => decide (elapsed t t' < 1000)) ++ [t]

def State.windowOf (s : State) (entry : Nat) : List Time := s.sig.windows.getD entry []

def State.setWindow (s : State) (entry : Nat) (w : List Time) : State :=
  { s with sig := { s.sig with windows := s.sig.windows.set entry w } }

/-- A check error report for an entry; a window of 8 times raises SIGNAL_DEGRADED and is emptied (R39). -/
def handleCheckError (entry : Nat) (t : Time) (s : State) : State :=
  let w := pruned t (s.windowOf entry)
  if 8 ≤ w.length then (s.setWindow entry []).raise srcSignalDegraded entry else s.setWindow entry w

def execCheckErrorReport (s : State) : Result :=
  whileRunning s fun s =>
    match s.sig.inbox.inHand with
    | some (.checkError entry t) => handleCheckError entry t s.finishSignal
    | _ => s

/-- A record takes a state; nothing else of it changes (R30, R31). -/
def State.setFreshness (s : State) (r : Role) (x : SignalState) : State :=
  { s with sig := { s.sig with records := s.sig.records.set r { s.sig.records.get r with state := x } } }

/-- The time since the last acceptance has reached `ms`. -/
def ageReached (s : State) (r : Role) (ms : Nat) : Bool :=
  match (s.sig.records.get r).accepted with
  | none => false
  | some t => decide (ms ≤ elapsed s.now t)

/-- The timeout expiry of a FRESH record, when it is due (R30): to HOLDING, or to LOST when the hold time is 0. -/
def expireTimeout (r : Role) (s : State) : State :=
  if (s.sig.records.get r).state = .fresh ∧ ageReached s r (s.cfg.signal.get r).timeout = true then
    if 0 < (s.cfg.signal.get r).hold then s.setFreshness r .holding
    else (s.setFreshness r .lost).notifyLost r
  else s

def execTimeoutExpiry (role : Role) (s : State) : Result := whileRunning s (expireTimeout role)

/-- The hold expiry of a HOLDING record, when it is due (R31). -/
def expireHold (r : Role) (s : State) : State :=
  if (s.sig.records.get r).state = .holding ∧
      ageReached s r ((s.cfg.signal.get r).timeout + (s.cfg.signal.get r).hold) = true then
    (s.setFreshness r .lost).notifyLost r
  else s

def execHoldExpiry (role : Role) (s : State) : Result := whileRunning s (expireHold role)

/-- R33: after a write of a role's timeout or hold time, an expiry whose new instant has passed occurs at the write. -/
def replaceExpiries (r : Role) (s : State) : State := expireHold r (expireTimeout r s)

end Sys2Proof.Machine
end

