-- ==== Sys2Proof/Machine/Position.lean ====
section
/-! DEFINITION. The position unit: sines (R44 to R46), tip radius and height (R47 to R49), the position record and its
notifications (R51 to R55). -/
namespace Sys2Proof.Machine

def sineEntry (t : List Nat) (i : Nat) : Int := (t.getD i 0 : Nat)

/-- The first-quadrant value Q(x), x from 0 to 9000 (R45). -/
def quadrant (t : List Nat) (x : Nat) : Int :=
  let i := x / 100
  let f := x % 100
  if i = 90 then sineEntry t 90
  else sineEntry t i + ((sineEntry t (i + 1) - sineEntry t i) * f + 50) / 100

/-- The sine of an angle in 0.01° (R44). -/
def sine (t : List Nat) (a : Int) : Int :=
  let r := (a % 36000).toNat
  if r < 9000 then quadrant t r
  else if r < 18000 then quadrant t (18000 - r)
  else if r < 27000 then -quadrant t (r - 18000)
  else -quadrant t (36000 - r)

/-- The cosine of an angle (R46). -/
def cosine (t : List Nat) (a : Int) : Int := sine t (a + 9000)

/-- The part of a link of length `l` for a sine or cosine `v` (R47). -/
def linkPart (l v : Int) : Int := (l * v + 16384) / 32768

/-- The radius before saturation (R48). -/
def radiusSum (t : List Nat) (g : Geometry) (boom arm bucket : Int) : Int :=
  g.r0 + linkPart g.boom (cosine t boom) + linkPart g.arm (cosine t arm) + linkPart g.bucket (cosine t bucket)

/-- The height before saturation (R48). -/
def heightSum (t : List Nat) (g : Geometry) (boom arm bucket : Int) : Int :=
  g.h0 + linkPart g.boom (sine t boom) + linkPart g.arm (sine t arm) + linkPart g.bucket (sine t bucket)

/-- ψ and ω from the signal records; a stale role leaves its field as it was (R52). -/
def takeSlew (v : PerRole SignalRecord) (p : PositionRecord) : PositionRecord :=
  { p with
    psi := if usable v.slewAngle then v.slewAngle.value else p.psi
    omega := if usable v.slewRate then v.slewRate.value else p.omega }

/-- R and H saturated, and whether saturation changed either (R49). -/
def withTip (r h : Int) (time : Time) (p : PositionRecord) : PositionRecord :=
  { p with
    r := clampInt 0 32767 r
    h := clampInt (-32768) 32767 h
    clamped := decide (clampInt 0 32767 r ≠ r) || decide (clampInt (-32768) 32767 h ≠ h)
    computedAt := some time
    count := countWrap p.count
    valid := true }

/-- R and H can be computed: all five position signals usable and the geometry valid (R52). -/
def canCompute (s : State) : Bool := positionUsable s.sig.records && geometryValid s.cfg.geometry

/-- The record after a computation (R52). -/
def computedRecord (time : Time) (s : State) : PositionRecord :=
  let p := takeSlew s.sig.records s.pos.record
  if canCompute s then
    let b := s.sig.records.boomAngle.value
    let a := s.sig.records.armAngle.value
    let k := s.sig.records.bucketAngle.value
    withTip (radiusSum s.cfg.sine s.cfg.geometry b a k) (heightSum s.cfg.sine s.cfg.geometry b a k) time p
  else { p with valid := false }

/-- What the limiter supervisor gets after a computation: the record, and POSITION_CLAMP when R and H were computed and
saturated (R49, R55). -/
def limiterPart (computed : Bool) (p : PositionRecord) : List LimiterEvent :=
  .position p :: (if computed && p.clamped then [.report ⟨.positionClamp, none, none, some p, none⟩] else [])

def State.finishPosition (s : State) : State := { s with pos := s.pos.finish }

/-- A computation, handed on to the envelope unit, the limiter supervisor and the shaping unit (R52, R55). -/
def computePosition (time : Time) (s : State) : State :=
  let p := computedRecord time s
  let s' := { s with pos := { s.pos with record := p } }
  ((s'.toEnvelope (limiterPart (canCompute s) p)).toShaping).finishPosition

def execPositionComputation (s : State) : Result :=
  whileRunning s fun s =>
    match s.pos.inHand with
    | some (.accepted n) => if n.named.any isAngle then computePosition n.time s else s
    | _ => s

/-- A slew rate update, handed to the envelope unit alone (R53, R55). -/
def updateSlewRate (s : State) : State :=
  let w := s.sig.records.slewRate
  let s' := { s with pos := { s.pos with record :=
    { s.pos.record with omega := if usable w then w.value else s.pos.record.omega } } }
  (s'.toEnvelope []).finishPosition

def execSlewRateUpdate (s : State) : Result :=
  whileRunning s fun s =>
    match s.pos.inHand with
    | some (.accepted n) => if n.named.any isAngle then s else updateSlewRate s
    | _ => s

/-- The valid flag becomes no, and the record is handed to the envelope and shaping units (R54, R55). -/
def losePosition (s : State) : State :=
  let s' := { s with pos := { s.pos with record := { s.pos.record with valid := false } } }
  (s'.toEnvelope []).toShaping

def execLossNotification (s : State) : Result :=
  whileRunning s fun s =>
    match s.pos.inHand with
    | some (.loss _) => (losePosition s).finishPosition
    | _ => s

end Sys2Proof.Machine
end

