-- ==== Sys2Proof/Machine/Envelope.lean ====
section
/-! DEFINITION. The envelope unit: profiles (R60), approach distances (R61 to R65), target gains (R66), the distance record
and breaches (R67, R68), activation (R73 to R78). -/
namespace Sys2Proof.Machine

/-! ## Profiles -/

/-- The steps in use: thresholds and gains of slots 1 to the step count. -/
def profileSteps (p : Profile) : List (Int × Nat) := (p.thresholds.zip p.gains).take p.count

/-- The gain of the last step whose threshold lies above `d` (R60). -/
def lastStepAbove (d : Int) (steps : List (Int × Nat)) : Nat :=
  steps.foldl (fun g st => if d < st.1 then st.2 else g) 1024

/-- The profile gain for an approach distance (R60). -/
def profileGain (p : Profile) (d : Int) : Nat :=
  match profileSteps p with
  | [] => 1024
  | (t, g) :: rest => if t ≤ d then 1024 else lastStepAbove d ((t, g) :: rest)

/-! ## Approach distances -/

/-- What a distance computation finds for one entry, before the clamp of R65: the distances by axis-direction that the
entry restricts, its single distance, and whether it is breached. -/
structure Approach where
  restricts : List (Dir × Int)
  distance : Int
  breached : Bool
  deriving DecidableEq, Repr

def slewPos : Dir := ⟨.slew, false⟩
def slewNeg : Dir := ⟨.slew, true⟩

/-- The angle turned while braking from ω to rest at α (R61). -/
def brakingAngle (omega decel : Int) : Int := ceilDiv (omega * omega) (2 * decel)

/-- The distances of a SLEW_ARC entry (R61, R62) and its breach (R68). -/
def slewApproach (hd : BankHeader) (e : EnvelopeEntry) (psi omega : Int) : Approach :=
  if inSector psi e then
    let plus := (e.sectorTo - psi) % 36000 - (if 0 < omega then brakingAngle omega hd.decel else 0)
    let minus := (psi - e.sectorFrom) % 36000 - (if omega < 0 then brakingAngle omega hd.decel else 0)
    { restricts := [(slewPos, plus), (slewNeg, minus)], distance := min plus minus, breached := false }
  else
    let p := (psi - e.sectorTo) % 36000
    let q := (e.sectorFrom - psi) % 36000
    if p ≤ q then { restricts := [(slewPos, -p)], distance := -p, breached := decide (hd.angularTol < p) }
    else { restricts := [(slewNeg, -q)], distance := -q, breached := decide (hd.angularTol < q) }

/-- The design grade height of a FLOOR entry at a radius (R64). -/
def gradeHeight (e : EnvelopeEntry) (r : Int) : Int := e.limit + (e.slope * (r - e.refRadius)).tdiv 1000

/-- The distance of a CEILING, FLOOR or REACH entry (R63, R64). -/
def tipDistance (e : EnvelopeEntry) (r h : Int) : Int :=
  match e.kind with
  | .floor => h - gradeHeight e r - e.margin
  | .reach => e.limit - e.margin - r
  | _ => e.limit - e.margin - h

/-- The distances of a height or radius entry: one distance for all its restricted moves (R63, R64, R68). -/
def tipApproach (hd : BankHeader) (e : EnvelopeEntry) (p : PositionRecord) : Approach :=
  let d := tipDistance e p.r p.h
  { restricts := (dirs.filter (dirGet e.moves)).map fun x => (x, d), distance := d, breached := decide (d < -hd.linearTol) }

/-- What a computation reads beside the position record: whether SLEW_ANGLE and SLEW_RATE are both usable, and grade
hold (R59). -/
structure EnvelopeInputs where
  slewUsable : Bool
  gradeHold : Bool
  deriving DecidableEq, Repr

def envelopeInputs (s : State) : EnvelopeInputs :=
  { slewUsable := usable s.sig.records.slewAngle && usable s.sig.records.slewRate, gradeHold := s.shp.gradeHold }

/-- The entry is applicable (R59). -/
def applicable (x : EnvelopeInputs) (p : PositionRecord) (e : EnvelopeEntry) : Bool :=
  e.enabled &&
    (match e.kind with
    | .slewArc => decide (e.sectorFrom ≠ e.sectorTo) && x.slewUsable
    | .floor => p.valid && inSector p.psi e && x.gradeHold
    | _ => p.valid && inSector p.psi e)

/-- The approach of an applicable entry; none for an entry that is not applicable. -/
def approach (x : EnvelopeInputs) (p : PositionRecord) (hd : BankHeader) (e : EnvelopeEntry) : Option Approach :=
  if applicable x p e then
    match e.kind with
    | .slewArc => some (slewApproach hd e p.psi p.omega)
    | _ => some (tipApproach hd e p)
  else none

/-- The approaches of the 16 entries of a bank, in order. -/
def approaches (x : EnvelopeInputs) (p : PositionRecord) (b : Bank) : List (Option Approach) :=
  (List.range 16).map fun i => approach x p b.header (b.entryAt i)

/-! ## Target gains and the distance record -/

def clampDistance (d : Int) : Int := clampInt (-32768) 32767 d

/-- The gain an entry gives an axis-direction, when it restricts it (R65, R66). -/
def entryGain (b : Bank) (e : EnvelopeEntry) (a : Approach) (x : Dir) : Option Nat :=
  (a.restricts.find? fun r => decide (r.1 = x)).map fun r => profileGain (b.profileAt e.profile) (clampDistance r.2)

/-- The least gain so far and the lowest-numbered entry that gives it; the start is 1024 and none (R66). -/
def lowerGain (best : Nat × Option Nat) (i : Nat) (g : Option Nat) : Nat × Option Nat :=
  match g with
  | none => best
  | some v => if v < best.1 then (v, some i) else best

/-- The target gain of an axis-direction and its most restrictive entry (R66). -/
def targetOf (b : Bank) (as : List (Option Approach)) (x : Dir) : Nat × Option Nat :=
  (List.range 16).foldl (fun best i =>
    lowerGain best i ((as.getD i none).bind fun a => entryGain b (b.entryAt i) a x)) (1024, none)

def entryDistance (a : Option Approach) : EntryDistance :=
  match a with
  | none => ⟨false, 0, false⟩
  | some a => ⟨true, clampDistance a.distance, a.breached⟩

/-- The distance record of a computation on a bank (R66 to R68). -/
def distanceOn (b : Bank) (x : EnvelopeInputs) (p : PositionRecord) (count : Nat) : DistanceRecord :=
  let as := approaches x p b
  { targets := dirTabulate fun d => (targetOf b as d).1
    restrictive := dirTabulate fun d => (targetOf b as d).2
    entries := as.map entryDistance
    count := countWrap count }

/-- The entries found breached, lowest number first (R68). -/
def breachedEntries (d : DistanceRecord) : List Nat :=
  (List.range 16).filter fun i => (d.entries.getD i ⟨false, 0, false⟩).breached

def breachReport (i : Nat) : LimiterEvent := .report ⟨.envelopeBreach, none, some i, none, none⟩

/-- A waiting activation after a distance computation: it keeps that a breach has been found since its request (R78). -/
def Activation.afterComputation (d : DistanceRecord) (a : Activation) : Activation :=
  { a with breached := a.breached || breachPresent d }

/-- A distance computation on the active bank: the distance record is replaced as a whole, and the breaches are reported
(R67, R68). -/
def computeDistance (p : PositionRecord) (s : State) : State :=
  let d := distanceOn s.cfg.activeBank (envelopeInputs s) p s.env.distance.count
  { s with env := { s.env with distance := d, activation := s.env.activation.map (Activation.afterComputation d) },
           lim := { s.lim with events := s.lim.events ++ (breachedEntries d).map breachReport } }

/-- The limiter supervisor gets what travelled with the hand-off, after the breach reports (R55). -/
def State.forwardToLimiter (s : State) (es : List LimiterEvent) : State :=
  { s with lim := { s.lim with events := s.lim.events ++ es } }

/-! ## Activation -/

/-- Every target gain of the distance record is 1024 (R75, part 2). -/
def nothingBraked (d : DistanceRecord) : Bool := (dirList d.targets).all fun g => decide (g = 1024)

/-- Every entry of a bank that would be applicable has every distance at 0 or above (R75, part 3). -/
def insideLimits (b : Bank) (x : EnvelopeInputs) (p : PositionRecord) : Bool :=
  (approaches x p b).all fun a =>
    match a with
    | none => true
    | some a => decide (0 ≤ a.distance)

/-- The condition for a waiting activation (R75). -/
def activationHolds (s : State) : Bool :=
  s.pos.record.valid && nothingBraked s.env.distance && insideLimits s.cfg.shadowBank (envelopeInputs s) s.pos.record

/-- The banks swap, and the distances are computed on the new active bank in place of any hand-off that waits (R76). -/
def swapBanks (s : State) : State :=
  let new := otherBank s.cfg.active
  let s := s.endActivation .ok
  let s := { s with cfg := { s.cfg with active := new }, mgt := { s.mgt with modified := true } }
  let s := s.raise srcBankActivated (bankCode new)
  let waiting := s.env.inbox.waiting
  let s := computeDistance s.pos.record { s with env := { s.env with inbox := { s.env.inbox with waiting := none } } }
  s.forwardToLimiter (match waiting with | none => [] | some w => w.forLimiter)

/-- The condition is tested when an activation waits (R75). An activation since whose request a breach has been found never
completes: it waits for the report to carry the supervisor out of NORMAL (R77, R78; log entry 39). -/
def testActivation (s : State) : State :=
  match s.env.activation with
  | none => s
  | some a => if !a.breached && activationHolds s then swapBanks s else s

/-- A distance computation for the hand-off in hand, what follows for the limiter supervisor, and the test of a waiting
activation at its end (R67, R75). -/
def handleEnvelope (x : EnvelopeHandOff) (s : State) : State :=
  let s := (computeDistance x.record s).forwardToLimiter x.forLimiter
  let s := { s with env := { s.env with testAsked := false, inbox := { s.env.inbox with inHand := none } } }
  let s := testActivation s
  { s with env := { s.env with inbox := s.env.inbox.finish } }

def execDistanceComputation (s : State) : Result :=
  whileRunning s fun s =>
    match s.env.inbox.inHand with
    | some x => handleEnvelope x s
    | none => s

/-- The test a command frame asked for, made between distance computations: while one is in hand it is made at its end
(R75, R88). -/
def askedTest (s : State) : State :=
  if s.env.testAsked && s.env.inbox.inHand.isNone then
    testActivation { s with env := { s.env with testAsked := false } }
  else s

def execActivationTest (s : State) : Result := whileRunning s askedTest

/-- The 10 s timer of a waiting activation has expired (R77). -/
def activationDue (s : State) : Bool :=
  match s.env.activation with
  | none => false
  | some a => decide (10000 ≤ elapsed s.now a.since)

def execActivationTimeout (s : State) : Result :=
  whileRunning s fun s => if activationDue s then s.endActivation .timeout else s

def execLimiterLeftNormal (s : State) : Result := whileRunning s fun s => s.endActivation .notAllowed

/-! ## Validation (R74) -/

/-- Two neighbouring thresholds descend strictly, all along a list. -/
def descending : List Int → Bool
  | a :: b :: rest => decide (b < a) && descending (b :: rest)
  | _ => true

/-- The thresholds of the steps in use. -/
def usedThresholds (p : Profile) : List Int := p.thresholds.take p.count

/-- An enabled entry that names an empty profile of its bank: inconsistent (R72, R74). -/
def inconsistent (b : Bank) (e : EnvelopeEntry) : Bool := e.enabled && decide ((b.profileAt e.profile).count = 0)

/-- The first failure of the validation: an entry (1) or a profile (2), and its number (R74, section 12.3). -/
def validationFailure (b : Bank) : Option (Nat × Nat) :=
  match (List.range 16).find? fun i => inconsistent b (b.entryAt i) with
  | some i => some (1, i)
  | none => ((List.range 8).find? fun i => !descending (usedThresholds (b.profileAt i))).map fun i => (2, i)

end Sys2Proof.Machine
end

