-- ==== Sys2Proof/Machine/Limiter.lean ====
section
/-! DEFINITION. The limiter supervisor (chapter 6): fault records and history (R104, R117), taking a report (R105 to R110),
leaving STARTUP (R102, R103), acknowledgement (R112), release (R114), reload (R116). -/
namespace Sys2Proof.Machine

/-! ## Records and history -/

/-- R117, append: an entry with the same tag is removed, then the oldest of 16, then the record is added as the newest. -/
def appendRecord (h : List FaultRecord) (f : FaultRecord) : List FaultRecord :=
  let kept := h.filter fun g => decide (g.tag ≠ f.tag)
  (if 16 ≤ kept.length then kept.drop (kept.length - 15) else kept) ++ [f]

/-- R117, update: the entry with the record's tag takes its repeat count and close reason, in its place. -/
def updateHistory (h : List FaultRecord) (f : FaultRecord) : List FaultRecord :=
  h.map fun g => if g.tag = f.tag then { g with repeats := f.repeats, closed := f.closed } else g

/-- The record that a report opens, with the next tag (R104). -/
def newRecord (s : State) (r : FaultReport) : FaultRecord :=
  let p := r.handed.getD s.pos.record
  { tag := nextTag s.lim.lastTag, kind := r.kind, role := r.role, entry := r.entry, time := s.now, r := p.r, h := p.h,
    psi := p.psi, valid := p.valid, stateBefore := s.lim.state, repeats := 0, closed := .none }

/-- The record is numbered and appended to the history (R104). -/
def registerRecord (u : LimiterUnit) (f : FaultRecord) : LimiterUnit :=
  { u with lastTag := f.tag, history := appendRecord u.history f }

/-- A record with one more repeat (R108, R110). -/
def repeated (f : FaultRecord) : FaultRecord := { f with repeats := countUp f.repeats }

/-- A record closed for a reason (R104). -/
def closedFor (c : CloseReason) (f : FaultRecord) : FaultRecord := { f with closed := c }

/-! ## Transitions -/

/-- The source raised at the entry into RESTRICTED (R107). -/
def restrictedSource (k : FaultKind) : Nat :=
  match k with
  | .envelopeBreach => srcEnvelopeBreach
  | _ => srcPositionFault

/-- A fault taken in STARTUP or NORMAL: the record is opened and the supervisor enters RESTRICTED (R104 to R107). -/
def enterRestricted (r : FaultReport) (s : State) : State :=
  let f := newRecord s r
  let s' := { s with lim := { registerRecord s.lim f with
    state := .restricted, startupSince := none, openRecord := some f } }
  let s' := s'.lowerGains .enterRestricted
  let s' := if s.lim.state = .normal then s'.endActivation .notAllowed else s'
  s'.raise (restrictedSource r.kind) f.tag

/-- A second fault: the second record is opened and the supervisor enters HOLD (R109). -/
def enterHold (r : FaultReport) (s : State) : State :=
  let f := newRecord s r
  let s' := { s with
    lim := { registerRecord s.lim f with state := .hold, secondRecord := some f }
    pilotCut := true }
  ((s'.lowerGains .enterHold).raise srcHoldEntered f.tag).requestCheckpoint

/-- A report that matches the open record is a repeat of it (R108, R110). -/
def repeatOpen (f : FaultRecord) (s : State) : State :=
  { s with lim := { s.lim with openRecord := some (repeated f), history := updateHistory s.lim.history (repeated f) } }

/-- A report that matches the second record is a repeat of it (R110). -/
def repeatSecond (f : FaultRecord) (s : State) : State :=
  { s with lim := { s.lim with secondRecord := some (repeated f), history := updateHistory s.lim.history (repeated f) } }

def matchesOption (r : FaultReport) (f : Option FaultRecord) : Bool :=
  match f with
  | none => false
  | some f => matchesRecord r f

/-- The supervisor takes a report according to its state (R105, R106, R108 to R110). -/
def takeReport (r : FaultReport) (s : State) : State :=
  match s.lim.state with
  | .startup =>
    match r.kind with
    | .positionLost => s
    | _ => enterRestricted r s
  | .normal => enterRestricted r s
  | .restricted =>
    match s.lim.openRecord with
    | none => enterHold r s
    | some f => if matchesRecord r f then repeatOpen f s else enterHold r s
  | .hold =>
    match s.lim.openRecord, s.lim.secondRecord with
    | some f, second =>
      if matchesRecord r f then repeatOpen f s
      else
        match second with
        | some g =>
          if matchesRecord r g then repeatSecond g s
          else { s with lim := { s.lim with faultInHold := countUp s.lim.faultInHold } }
        | none => { s with lim := { s.lim with faultInHold := countUp s.lim.faultInHold } }
    | none, some g =>
      if matchesRecord r g then repeatSecond g s
      else { s with lim := { s.lim with faultInHold := countUp s.lim.faultInHold } }
    | none, none => { s with lim := { s.lim with faultInHold := countUp s.lim.faultInHold } }

def State.dropLimiterEvent (s : State) (rest : List LimiterEvent) : State := { s with lim := { s.lim with events := rest } }

def execFaultReport (s : State) : Result :=
  whileRunning s fun s =>
    match s.lim.events with
    | .report r :: rest => takeReport r (s.dropLimiterEvent rest)
    | _ => s

/-- In STARTUP a valid, unclamped record moves the supervisor to NORMAL (R102). -/
def testPosition (p : PositionRecord) (s : State) : State :=
  if s.lim.state = .startup ∧ p.valid = true ∧ p.clamped = false then
    { s with lim := { s.lim with state := .normal, startupSince := none } }
  else s

def execLimiterPositionTest (s : State) : Result :=
  whileRunning s fun s =>
    match s.lim.events with
    | .position p :: rest => testPosition p (s.dropLimiterEvent rest)
    | _ => s

/-- The first position signal that is not usable (R103). -/
def firstUnusable (v : PerRole SignalRecord) : Option Role := positionRoles.find? fun r => !usable (v.get r)

/-- The STARTUP timer has reached 5000 ms (R103). -/
def startupDue (s : State) : Bool :=
  match s.lim.startupSince with
  | none => false
  | some t => decide (s.lim.state = .startup) && decide (5000 ≤ elapsed s.now t)

def execStartupTimerExpiry (s : State) : Result :=
  whileRunning s fun s =>
    if startupDue s then enterRestricted ⟨.positionLost, firstUnusable s.sig.records, none, none, none⟩ s else s

/-! ## Acknowledgement and release -/

/-- The open record is closed for a reason, and its history entry is updated. -/
def closeOpen (c : CloseReason) (u : LimiterUnit) : LimiterUnit :=
  match u.openRecord with
  | none => u
  | some f => { u with openRecord := none, history := updateHistory u.history (closedFor c f) }

/-- The second record is closed for a reason, and its history entry is updated. -/
def closeSecond (c : CloseReason) (u : LimiterUnit) : LimiterUnit :=
  match u.secondRecord with
  | none => u
  | some f => { u with secondRecord := none, history := updateHistory u.history (closedFor c f) }

/-- An acknowledgement in RESTRICTED (R112). -/
def acknowledge (tag : Nat) (s : State) : State :=
  match s.lim.openRecord with
  | none => { s with lim := { s.lim with ackMismatch := countUp s.lim.ackMismatch } }
  | some f =>
    if tag = f.tag then
      if conditionAbsent s then { s with lim := { closeOpen .acked s.lim with state := .normal } }
      else { s with lim := { s.lim with ackEarly := countUp s.lim.ackEarly } }
    else { s with lim := { s.lim with ackMismatch := countUp s.lim.ackMismatch } }

/-- The supervisor's part of a console frame (R112). -/
def limiterConsole (d : List Byte) (s : State) : State :=
  if consoleFaultTag d = 0 then s
  else
    match s.lim.state with
    | .restricted => acknowledge (consoleFaultTag d) s
    | _ => s

def execFaultAcknowledgement (s : State) : Result :=
  whileRunning s fun s =>
    match s.lim.inbox.inHand with
    | none => s
    | some d => limiterConsole d { s with lim := { s.lim with inbox := s.lim.inbox.finish } }

/-- The first test of R114 that fails, by its reason. -/
def releaseRefusal (s : State) : Option Nat :=
  if s.lim.state ≠ .hold then some 1
  else if s.maintEn = false then some 2
  else if positionFresh s.sig.records = false then some 3
  else if conditionClear s = false then some 4
  else if allNeutral s.cfg.identity.deadband s.shp.lastRaw = false then some 5
  else none

/-- The release of a HOLD whose tests have all passed (R114). -/
def releaseHold (s : State) : State :=
  { s with
    lim := { closeSecond .released (closeOpen .released s.lim) with state := .normal }
    pilotCut := false }.lowerGains .release

/-- The event is a fault report. -/
def isReport (e : LimiterEvent) : Bool :=
  match e with
  | .report _ => true
  | .position _ => false

/-- A hand-off to the envelope unit without the position record that the supervisor was to test. -/
def withoutPosition (x : EnvelopeHandOff) : EnvelopeHandOff := { x with forLimiter := x.forLimiter.filter isReport }

/-- At a reload the records handed on before it are withdrawn from the test of R102: the supervisor leaves STARTUP once
all five position signals have been accepted again (R116). Fault reports stay (log entry 38). -/
def withdrawPositions (s : State) : State :=
  { s with
    lim := { s.lim with events := s.lim.events.filter isReport }
    env := { s.env with inbox :=
      ⟨s.env.inbox.inHand.map withoutPosition, s.env.inbox.waiting.map withoutPosition⟩ } }

/-- The supervisor's work at a reload (R116); the tables have been replaced. -/
def reloadLimiter (s : State) : State :=
  let s' := withdrawPositions s
  let s' := { s' with lim := { closeOpen .reloaded s'.lim with state := .startup, startupSince := some s.now } }
  let s' := if s.lim.state = .normal then s'.endActivation .notAllowed else s'
  s'.lowerGains .reload

end Sys2Proof.Machine
end

