-- ==== Sys2Proof/Machine/Shaping.lean ====
section
/-! DEFINITION. The shaping unit (chapter 5): command frames (R80 to R87), hard stops (R90, R91), grade hold and the active
grade (R92 to R95), the guidance frame (R96 to R98). -/
namespace Sys2Proof.Machine

/-! ## Command frames -/

/-- The target of an axis-direction, by the limiter state (R82). -/
def gainTarget (x : LimiterState) (creep envelope : Nat) : Nat :=
  match x with
  | .normal => envelope
  | .startup => min creep envelope
  | .restricted => min creep envelope
  | .hold => 0

/-- The held gain after a frame that carries its axis (R83). -/
def risenGain (rise target held : Nat) : Nat := min target (held + rise)

/-- The held gains after a command frame: both directions of every present axis are updated (R82, R83). -/
def updatedGains (s : State) (present : Axis → Bool) : PerDir Nat :=
  dirTabulate fun d =>
    if present d.axis then
      risenGain s.cfg.activeBank.header.rise
        (gainTarget s.lim.state s.cfg.activeBank.header.creep (dirGet s.env.distance.targets d)) (dirGet s.shp.heldGains d)
    else dirGet s.shp.heldGains d

/-- The shaped value of a raw value under the held gains of its axis (R84). -/
def shapedValue (g : Sided Nat) (v : Int) : Int :=
  if v = 0 then 0
  else if 0 < v then ((v.natAbs * g.pos / 1024 : Nat) : Int)
  else -((v.natAbs * g.neg / 1024 : Nat) : Int)

def shapedValues (gains : PerDir Nat) (raw : PerAxis (Option Int)) : PerAxis (Option Int) :=
  PerAxis.tabulate fun x => (raw.get x).map (shapedValue (gains.get x))

/-- The hard-stop flags after a frame: set exactly while a present axis-direction is pressed at held gain 0 (R90, R91). -/
def updatedStops (deadband : Nat) (gains : PerDir Nat) (raw : PerAxis (Option Int)) (old : PerDir Bool) : PerDir Bool :=
  dirTabulate fun d =>
    match raw.get d.axis with
    | none => dirGet old d
    | some v => pressing deadband v d && decide (dirGet gains d = 0)

/-- How many hard-stop episodes begin (R90). -/
def episodes (old new : PerDir Bool) : Nat := dirs.countP fun d => dirGet new d && !dirGet old d

/-- The values of the present axes replace the last ones (R87). -/
def latest (old : PerAxis Int) (new : PerAxis (Option Int)) : PerAxis Int :=
  PerAxis.tabulate fun x => (new.get x).getD (old.get x)

/-- A command frame, from its axis values to its hand-offs (R80 to R88). A test asked for while an earlier one has not been
made is made with it, as one test (model's choice: log entry 41). -/
def shapeFrame (p : Port) (f : Frame) (offsets : PerAxis (Option Nat)) (checkPos : Option Nat) (s : State) : State :=
  let raw := rawValues offsets f.data
  let gains := updatedGains s fun x => (offsets.get x).isSome
  let shaped := shapedValues gains raw
  let stops := updatedStops s.cfg.identity.deadband gains raw s.shp.hardStops
  let lastRaw := latest s.shp.lastRaw raw
  let lastShaped := latest s.shp.lastShaped shaped
  let s' := { s with
    shp := { s.shp with
      heldGains := gains
      lastRaw := lastRaw
      lastShaped := lastShaped
      hardStops := stops
      clampCount := countUpBy s.shp.clampCount (clampedAxes offsets f.data) }
    svc := { s.svc with hardStopReports := s.svc.hardStopReports + episodes s.shp.hardStops stops }
    eco := { s.eco with commands := s.eco.commands ++ [CommandNote.mk lastRaw lastShaped] }
    env := { s.env with testAsked := s.env.testAsked || s.env.activation.isSome } }
  s'.offer (otherPort p) .forwarded ⟨f.ident, rewritten offsets checkPos shaped f.data⟩

def State.finishShaping (s : State) : State := { s with shp := { s.shp with inbox := s.shp.inbox.finish } }

def execCommandFrame (s : State) : Result :=
  whileRunning s fun s =>
    match s.shp.inbox.inHand with
    | some (.command p f offsets check) => shapeFrame p f offsets check s.finishShaping
    | _ => s

/-- The shaping unit is told of a limiter transition (R89). -/
def execHeldGainLowering (transition : GainTransition) (s : State) : Result :=
  whileRunning s fun s => s.lowerGains transition

/-! ## Grade hold and the active grade -/

/-- Grade hold takes the flag of the console frame; turning it off clears the in-band flag (R92). -/
def gradeConsole (d : List Byte) (s : State) : State :=
  { s with shp := { s.shp with
      gradeHold := consoleGradeHold d
      inBand := if s.shp.gradeHold && !consoleGradeHold d then false else s.shp.inBand } }

def execGradeHoldConsole (s : State) : Result :=
  whileRunning s fun s =>
    match s.shp.inbox.inHand with
    | some (.console d) => gradeConsole d s.finishShaping
    | _ => s

/-- The active grade (R93). -/
def findGrade (b : Bank) (p : PositionRecord) : Option Nat :=
  if p.valid then
    (List.range 16).find? fun i =>
      (b.entryAt i).enabled && decide ((b.entryAt i).kind = .floor) && inSector p.psi (b.entryAt i)
  else none

/-- The tip-to-grade (R94). -/
def tipToGrade (b : Bank) (p : PositionRecord) : Option Int :=
  (findGrade b p).map fun i => clampInt (-32767) 32767 (p.h - gradeHeight (b.entryAt i) p.r)

/-- The tip is in band (R95). -/
def tipInBand (gradeHold : Bool) (band : Nat) (t : Option Int) : Bool :=
  match t with
  | none => false
  | some v => gradeHold && decide (v.natAbs ≤ band)

/-- The grade state at a hand-off, with GRADE_REACHED at an entry into the band (R93 to R95). -/
def updateGrade (p : PositionRecord) (s : State) : State :=
  let b := s.cfg.activeBank
  let inBand := tipInBand s.shp.gradeHold s.cfg.identity.gradeBand (tipToGrade b p)
  let s' := { s with shp := { s.shp with
    activeGrade := findGrade b p, tipToGrade := tipToGrade b p, inBand := inBand } }
  match findGrade b p with
  | some i => if inBand && !s.shp.inBand then s'.raise srcGradeReached i else s'
  | none => s'

/-! ## The guidance frame -/

/-- The guidance period has elapsed, or no guidance frame has been composed (R96). -/
def guidanceDue (s : State) (time : Time) : Bool :=
  match s.shp.lastGuidance with
  | none => true
  | some t => decide (s.cfg.identity.guidancePeriod ≤ elapsed time t)

/-- The guidance frame (R97, section 12.2). -/
def guidanceFrame (s : State) (p : PositionRecord) : Frame :=
  let tip : Int := s.shp.tipToGrade.getD (-32768)
  let flags := s.shp.guidanceCounter % 16 + 16 * limiterCode s.lim.state + 64 * flagOf p.valid + 128 * flagOf p.clamped
  composedChecked s.cfg.identity.guidance
    (halfBytes (halfOf (32768 * flagOf s.shp.gradeHold + p.r.toNat % 32768)) ++ halfBytes (halfOfInt p.h) ++
      halfBytes (halfOfInt tip) ++ [byteOf flags])

/-- A hand-off of the position record: the grade, then a guidance frame when one is due (R96 to R98). The part time is that of
the hand-over; grade hold, the active bank and the settings are those that stand when the hand-off is taken (model's
choice: log entry 45). -/
def handleGuidance (x : PositionHandOff) (s : State) : State :=
  let s := updateGrade x.record s
  if guidanceDue s x.time then
    { s with shp := { s.shp with
        lastGuidance := some x.time, guidanceCounter := (s.shp.guidanceCounter + 1) % 16 } }.offer .a .own
      (guidanceFrame s x.record)
  else s

def execGuidanceHandOff (s : State) : Result :=
  whileRunning s fun s =>
    match s.shp.positions with
    | [] => s
    | x :: rest => handleGuidance x { s with shp := { s.shp with positions := rest } }

end Sys2Proof.Machine
end

