-- ==== Sys2Proof/Machine/Engine.lean ====
section
/-! DEFINITION. The engine request queue (chapter 8), with the target computation of the economy unit that its return from
FALLBACK needs (R126, R127, R131). -/
namespace Sys2Proof.Machine

/-! ## The target (sections 7.4 and 7.5) -/

/-- The points in use: demands and speeds of slots 1 to the count. -/
def curvePoints (e : EconomySettings) : List (Nat × Nat) := (e.demands.zip e.speeds).take e.pointCount

/-- The curve value at or above the demand of a point (R125). -/
def curveAbove (d : Nat) : Nat × Nat → List (Nat × Nat) → Int
  | p, [] => p.2
  | p, q :: rest =>
    if q.1 ≤ d then curveAbove d q rest
    else p.2 + (((q.2 : Int) - p.2) * ((d : Int) - p.1)) / ((q.1 : Int) - p.1)

/-- The curve value for a demand (R125). -/
def curveValue (e : EconomySettings) (d : Nat) : Int :=
  match curvePoints e with
  | [] => 0
  | p :: rest => if d < p.1 then p.2 else curveAbove d p rest

/-- A speed brought into idle to max (R126, step 2). -/
def inRange (e : EconomySettings) (x : Int) : Nat := (clampInt e.idle e.max x).toNat

/-- The dial: the dial received, or idle while it is none, brought into idle to max (R126). -/
def dialOf (e : EconomySettings) (u : EconomyUnit) : Nat := inRange e (u.dial.getD e.idle : Nat)

/-- The base of the target (R126, step 1). -/
def targetBase (e : EconomySettings) (u : EconomyUnit) : Int :=
  match u.state with
  | .run =>
    match u.mode with
    | .full => (dialOf e u : Nat)
    | .eco => min (dialOf e u : Int) (curveValue e u.demand)
  | .autoIdle => (e.idle : Nat)
  | .fallback => (dialOf e u : Nat)

/-- The target speed (R126). -/
def targetSpeed (e : EconomySettings) (u : EconomyUnit) : Nat :=
  let r := inRange e (targetBase e u)
  if u.limp then min r e.limp else r

/-- The reason of the target (R127). -/
def targetReason (e : EconomySettings) (u : EconomyUnit) : Reason :=
  if u.state = .fallback then .fallback
  else if u.limp = true ∧ e.limp < inRange e (targetBase e u) then .limp
  else if u.state = .autoIdle then .idle
  else if u.mode = .eco ∧ inRange e (curveValue e u.demand) < dialOf e u then .eco
  else .dial

def computeTarget (e : EconomySettings) (u : EconomyUnit) : Target := ⟨targetSpeed e u, targetReason e u⟩

/-- The target is computed and kept (R129). -/
def State.setTarget (s : State) : State :=
  { s with eco := { s.eco with target := some (computeTarget s.cfg.economy s.eco) } }

/-! ## Auto-idle (R131) -/

/-- The last slew rate is not none and its magnitude lies below the threshold (R131). -/
def slewStill (threshold : Nat) (v : Option Int) : Bool :=
  match v with
  | none => false
  | some w => decide (w.natAbs < threshold)

/-- The four conditions of the auto-idle timer, on the given last raw values (R131). -/
def autoIdleConditions (raw : PerAxis Int) (s : State) : Bool :=
  s.eco.autoIdleOn && allNeutral s.cfg.identity.deadband raw && slewStill s.cfg.economy.slewStill s.eco.lastSlew &&
    usable s.sig.records.engineSpeed

/-- The auto-idle conditions are judged: in RUN the timer starts, runs on, or stops; it does not run in AUTO_IDLE or in
FALLBACK (R131). The part time of the event is that at which the unit takes the notification, acceptance or console frame
(model's choice: log entry 21). -/
def judgeAutoIdle (raw : PerAxis Int) (s : State) : State :=
  { s with eco := { s.eco with timer :=
      if s.eco.state = .run ∧ autoIdleConditions raw s = true then
        match s.eco.timer with
        | some t => some t
        | none => some s.now
      else none } }

/-! ## Requests (R139 to R141) -/

/-- The first tag after `t` that none of the held ones equals, within as many steps as tags are held, and one (R139). -/
def freshTag : Nat → Nat → List Nat → Nat
  | 0, t, _ => nextTag t
  | n + 1, t, held => if held.contains (nextTag t) then freshTag n (nextTag t) held else nextTag t

/-- The tag that is allocated next (R139). -/
def allocateTag (q : EngineQueue) : Nat := freshTag q.entries.length q.lastTag (q.entries.map fun e => e.tag)

/-- The engine request frame (section 12.2). -/
def engineFrame (s : State) (tag : Nat) (t : Target) : Frame :=
  composedChecked s.cfg.identity.engineRequest
    ([byteOf tag] ++ halfBytes (halfOf t.rpm) ++ [byteOf (reasonCode t.reason)])

/-- A request frame is sent on port B, and the last issued target and reason become its own (R140, R145, R148). -/
def sendRequest (tag : Nat) (t : Target) (s : State) : State :=
  { s with eco := { s.eco with lastIssued := some t } }.offer .b .own (engineFrame s tag t)

/-- A request is issued as a new entry (R140). -/
def issueRequest (t : Target) (s : State) : State :=
  let tag := allocateTag s.eng
  let e : EngineEntry := { tag := tag, target := t, issued := s.now, second := false, deferred := false,
                           expiry := instantAfter s.now s.cfg.economy.replyTimeout }
  sendRequest tag t { s with eng := { s.eng with entries := s.eng.entries ++ [e], lastTag := tag } }

/-- The queue holds fewer entries than its depth (R140). -/
def queueHasRoom (s : State) : Bool := decide (s.eng.entries.length < s.cfg.economy.queueDepth)

/-- A request of the economy unit: issued, or kept as the pending target (R140). -/
def requestSpeed (t : Target) (s : State) : State :=
  if queueHasRoom s then issueRequest t s else { s with eng := { s.eng with pendingTarget := some t } }

/-- The queue looks at the pending target (R141). While the queue stays full, as after a DEFERRED reply that removes no
entry, the target goes on pending (R142; model's choice: log entry 33). -/
def lookAtPending (s : State) : State :=
  match s.eng.pendingTarget with
  | none => s
  | some t =>
    if queueHasRoom s then
      let s' := { s with eng := { s.eng with pendingTarget := none } }
      if s.eco.lastIssued = some t then s' else issueRequest t s'
    else s

/-! ## Timeouts (R144 to R146) -/

/-- The entry is reissued in its own place (R145). -/
def reissue (e : EngineEntry) (rest : List EngineEntry) (s : State) : State :=
  let tag := allocateTag s.eng
  let e' := { e with tag := tag, second := true, deferred := false, issued := s.now,
                     expiry := instantAfter s.now s.cfg.economy.replyTimeout }
  sendRequest tag e.target
    { s with eng := { s.eng with entries := e' :: rest, lastTag := tag, reissued := countUp s.eng.reissued } }

/-- An engine link fault: the queue is emptied and the economy unit enters FALLBACK (R135, R146). -/
def linkFault (e : EngineEntry) (s : State) : State :=
  { s with
    eng := { s.eng with entries := [], pendingTarget := none, linkFault := countUp s.eng.linkFault, refusals := 0 }
    eco := { s.eco with state := .fallback, timer := none } }.raise srcEngineLinkLost e.target.rpm

/-- The timeouts that occur while the oldest entry's expiry instant has passed (R144 to R146). The count bounds the
entries that may be removed. -/
def runTimeouts : Nat → State → State
  | 0, s => s
  | n + 1, s =>
    match s.eng.entries with
    | [] => s
    | e :: rest =>
      if reached s.now e.expiry then
        if e.second then linkFault e s
        else
          match rest with
          | [] => reissue e [] s
          | _ :: _ => runTimeouts n { s with eng := { s.eng with entries := rest, skipped := countUp s.eng.skipped } }
      else s

/-- Timeouts of entries become oldest, and then the pending target (R144, R141). -/
def afterEntriesLeft (s : State) : State := lookAtPending (runTimeouts s.eng.entries.length s)

/-- The oldest entry has reached its expiry instant (R144). -/
def oldestDue (s : State) : Bool :=
  match s.eng.entries with
  | [] => false
  | e :: _ => reached s.now e.expiry

def execEngineRequestTimeout (s : State) : Result :=
  whileRunning s fun s => if oldestDue s then afterEntriesLeft s else s

/-! ## Replies (R142, R143, R149) -/

/-- The refusal of a request; the third in a row raises ENGINE_REFUSED (R142). -/
def refuse (t : Target) (s : State) : State :=
  let s' := { s with eng := { s.eng with refused := countUp s.eng.refused } }
  if 2 ≤ s.eng.refusals then { s' with eng := { s'.eng with refusals := 0 } }.raise srcEngineRefused t.rpm
  else { s' with eng := { s'.eng with refusals := s.eng.refusals + 1 } }

/-- The status of a reply is applied to the oldest entry (R142); a DEFERRED entry expires after the deferral limit from the
taking of the reply (model's choice: log entry 21). -/
def applyReply (status : Nat) (e : EngineEntry) (rest : List EngineEntry) (s : State) : State :=
  match status with
  | 1 => { s with eng := { s.eng with entries := rest, refusals := 0 } }
  | 2 => { s with eng := { s.eng with entries :=
      { e with deferred := true, expiry := instantAfter s.now s.cfg.economy.deferralLimit } :: rest } }
  | _ => refuse e.target { s with eng := { s.eng with entries := rest } }

/-- A reply matched to the entry at `k`: the older entries are removed as SKIPPED (R142, R143). -/
def matchReply (k status : Nat) (s : State) : State :=
  match s.eng.entries.drop k with
  | [] => s
  | e :: rest =>
    afterEntriesLeft (applyReply status e rest
      { s with eng := { s.eng with entries := e :: rest, skipped := countUpBy s.eng.skipped k } })

/-- A reply that is ignored (R143); STRAY stops at 65535 (model's choice: log entry 32). -/
def strayReply (s : State) : State := { s with eng := { s.eng with stray := countUp s.eng.stray } }

/-- FALLBACK ends: the economy unit returns to RUN and its target is handed over at once (R135, R149). -/
def endFallback (s : State) : State :=
  let s := State.setTarget { s with eco := { s.eco with state := .run } }
  judgeAutoIdle s.shp.lastRaw (requestSpeed (computeTarget s.cfg.economy s.eco) s)

/-- A reply is taken (R142, R143, R149); its part time is that of the taking (model's choice: log entry 21). The queue's
five counts stop at 65535 (model's choice: log entry 32). -/
def takeReply (d : List Byte) (s : State) : State :=
  let s := { s with eng := { s.eng with lastReply := some ⟨replyTag d, replyStatus d, replyRpm d, s.now⟩ } }
  if s.eco.state = .fallback then endFallback s
  else if 1 ≤ replyStatus d ∧ replyStatus d ≤ 3 then
    match s.eng.entries.findIdx? fun e => decide (e.tag = replyTag d) with
    | none => strayReply s
    | some k => matchReply k (replyStatus d) s
  else strayReply s

def execEngineReplyTaken (s : State) : Result :=
  whileRunning s fun s =>
    match s.eng.inbox.inHand with
    | none => s
    | some d => takeReply d { s with eng := { s.eng with inbox := s.eng.inbox.finish } }

/-- The effect of an accepted write of the queue depth (R150). -/
def depthWritten (s : State) : State :=
  let excess := s.eng.entries.length - s.cfg.economy.queueDepth
  if excess = 0 then lookAtPending s
  else
    afterEntriesLeft { s with eng := { s.eng with
      entries := s.eng.entries.drop excess, skipped := countUpBy s.eng.skipped excess } }

/-- The queue's work at a reload (R151). -/
def reloadQueue (s : State) : State := { s with eng := { s.eng with entries := [], pendingTarget := none } }

end Sys2Proof.Machine
end

