-- ==== Sys2Proof/Machine/Economy.lean ====
section
/-! DEFINITION. The economy unit (chapter 7): console inputs (R123), demand (R124), the decision to request (R129, R130),
auto-idle (R131 to R134), limp (R128), reload (R137). -/
namespace Sys2Proof.Machine

/-- Two targets differ by at least the hysteresis and by at least 1 rpm (R130). -/
def movedEnough (hysteresis a b : Nat) : Bool :=
  let d := ((a : Int) - b).natAbs
  decide (hysteresis ≤ d) && decide (1 ≤ d)

/-- A request is made for the target (R130); `engaged` marks a limp engagement. -/
def wantsRequest (e : EconomySettings) (last : Option Target) (engaged : Bool) (t : Target) : Bool :=
  match last with
  | none => true
  | some l => decide (t.reason ≠ l.reason) || engaged || movedEnough e.hysteresis t.rpm l.rpm

/-- The target is computed, and in RUN and AUTO_IDLE a request is decided (R129, R130). -/
def settleTarget (engaged : Bool) (s : State) : State :=
  let t := computeTarget s.cfg.economy s.eco
  let s' := s.setTarget
  if s.eco.state ≠ .fallback ∧ wantsRequest s.cfg.economy s.eco.lastIssued engaged t = true then requestSpeed t s' else s'

/-- Return from AUTO_IDLE to RUN, with the target and the judgement that follow (R133). -/
def leaveAutoIdle (raw : PerAxis Int) (s : State) : State :=
  judgeAutoIdle raw (settleTarget false { s with eco := { s.eco with state := .run } })

/-- The demand of a set of shaped values (R124). -/
def demandOf (w : PerAxis Nat) (shaped : PerAxis Int) : Nat :=
  min 1000 ((axes.map fun x => (shaped.get x).natAbs * w.get x).sum / 100)

/-- A command frame notification (R124, R129, R133). All axes neutral is judged on the last raw values as they stand at
this event (R87). -/
def handleCommandNote (n : CommandNote) (s : State) : State :=
  let s := { s with eco := { s.eco with demand := demandOf s.cfg.economy.weights n.shaped } }
  match s.eco.state with
  | .run => settleTarget false (judgeAutoIdle s.shp.lastRaw s)
  | .autoIdle =>
    if allNeutral s.cfg.identity.deadband s.shp.lastRaw then settleTarget false s else leaveAutoIdle s.shp.lastRaw s
  | .fallback => settleTarget false s

def execEconomyCommandNotify (s : State) : Result :=
  whileRunning s fun s =>
    match s.eco.commands with
    | [] => s
    | n :: rest => handleCommandNote n { s with eco := { s.eco with commands := rest } }

/-- The settings of a console frame are taken (R123). -/
def takeSettings (d : List Byte) (e : EconomySettings) (u : EconomyUnit) : EconomyUnit :=
  { u with
    dial := some (consoleDial d)
    mode := consoleMode d
    autoIdleOn := consoleAutoIdle d
    dialClamps := if consoleDial d < e.idle ∨ e.max < consoleDial d then countUp u.dialClamps else u.dialClamps }

/-- The untracked request of FALLBACK (R148). -/
def untrackedRequest (s : State) : State :=
  sendRequest 0 ⟨targetSpeed s.cfg.economy s.eco, .fallback⟩ s

/-- The economy unit's part of a console frame (R123, R129, R133, R148). -/
def handleEconomyConsole (d : List Byte) (s : State) : State :=
  let s := { s with eco := takeSettings d s.cfg.economy s.eco }
  match s.eco.state with
  | .run => settleTarget false (judgeAutoIdle s.shp.lastRaw s)
  | .autoIdle => if s.eco.autoIdleOn then settleTarget false s else leaveAutoIdle s.shp.lastRaw s
  | .fallback => untrackedRequest (settleTarget false s)

def execEconomyConsole (s : State) : Result :=
  whileRunning s fun s =>
    match s.eco.inbox.inHand with
    | none => s
    | some d => handleEconomyConsole d { s with eco := { s.eco with inbox := s.eco.inbox.finish } }

/-- A SLEW_RATE acceptance (R133, R134). -/
def handleSlewRate (v : Int) (s : State) : State :=
  let s := { s with eco := { s.eco with lastSlew := some v } }
  match s.eco.state with
  | .run => judgeAutoIdle s.shp.lastRaw s
  | .autoIdle => if s.cfg.economy.slewStill ≤ v.natAbs then leaveAutoIdle s.shp.lastRaw s else s
  | .fallback => s

def execSlewRateAcceptance (s : State) : Result :=
  whileRunning s fun s =>
    match s.eco.slewRates with
    | [] => s
    | v :: rest => handleSlewRate v { s with eco := { s.eco with slewRates := rest } }

/-- An ENGINE_SPEED acceptance: the auto-idle conditions are judged in RUN (R134). -/
def execEngineSpeedAcceptance (s : State) : Result :=
  whileRunning s fun s =>
    match s.eco.speeds with
    | [] => s
    | _ :: rest =>
      let s := { s with eco := { s.eco with speeds := rest } }
      if s.eco.state = .run then judgeAutoIdle s.shp.lastRaw s else s

/-- The loss of ENGINE_SPEED stops the auto-idle timer (R134). -/
def execEngineSpeedLoss (s : State) : Result :=
  whileRunning s fun s =>
    match s.eco.speedLosses with
    | [] => s
    | _ :: rest => { s with eco := { s.eco with speedLosses := rest, timer := none } }

/-- The auto-idle timer has reached the delay, in RUN (R132). -/
def autoIdleDue (s : State) : Bool :=
  match s.eco.timer with
  | none => false
  | some t => decide (s.eco.state = .run) && decide (1000 * s.cfg.economy.autoIdleDelay ≤ elapsed s.now t)

/-- The expiry of the auto-idle timer, when it is due (R132). -/
def expireAutoIdle (s : State) : State :=
  if autoIdleDue s then settleTarget false { s with eco := { s.eco with state := .autoIdle, timer := none } } else s

def execAutoIdleExpiry (s : State) : Result := whileRunning s expireAutoIdle

/-- A limp engagement or disengagement (R128). -/
def handleLimp (c : LimpChange) (s : State) : State :=
  match c with
  | .engage item => settleTarget true ({ s with eco := { s.eco with limp := true } }.raise srcLimpActive item)
  | .disengage => settleTarget false { s with eco := { s.eco with limp := false } }

def execLimpChange (s : State) : Result :=
  whileRunning s fun s =>
    match s.eco.limpChanges with
    | [] => s
    | c :: rest => handleLimp c { s with eco := { s.eco with limpChanges := rest } }

/-- The economy unit's work at a reload (R134, R137). SLEW_RATE acceptances that it has not taken precede the reload, so
they do not outlast it (log entry 13). -/
def reloadEconomy (s : State) : State :=
  { s with eco := { s.eco with
      state := .run, timer := none, lastSlew := none, target := none, lastIssued := none, slewRates := [] } }

end Sys2Proof.Machine
end

