-- ==== Sys2Proof/Machine/Ports.lean ====
section
/-! DEFINITION. The port controllers: reception (R1), transmission attempts (R16, R20), bus-off and its recovery (R21,
R22). -/
namespace Sys2Proof.Machine

/-- The frame is stored at the tail of the receive FIFO, or counted RX_OVERFLOW (R1). -/
def storeReceived (p : PortState) (f : Frame) : PortState :=
  if p.rx.length < 32 then { p with rx := p.rx ++ [f] }
  else { p with stats := { p.stats with rxOverflow := countUp p.stats.rxOverflow } }

/-- Any frame on the segment of a BUS_OFF port restarts its idle timer (R22). -/
def restartIdle (now : Time) (p : PortState) : PortState :=
  match p.bus with
  | .busOff => { p with idleSince := some now }
  | .onBus => p

/-- A frame that the FIFO may take: a data frame with a 29-bit identifier, a valid check and up to eight bytes (R1). -/
def storable (f : BusFrame) : Bool := f.checkGood && f.extended && !f.remote && decide (f.data.length ≤ 8)

/-- A frame is seen on the segment of a port. Frames are not received before start-up has ended (R192). -/
def execReceiveFrame (port : Port) (frame : BusFrame) (s : State) : Result :=
  whileActive s fun s =>
    let p := restartIdle s.now (s.ports.get port)
    let p := if s.phase = .running ∧ storable frame = true then storeReceived p ⟨frame.ident, frame.data⟩ else p
    { s with ports := s.ports.set port p }

/-- The lowest identifier in a queue (R16). -/
def lowestIdent : List TxEntry → Option CanId
  | [] => none
  | e :: es =>
    match lowestIdent es with
    | none => some e.ident
    | some i => some (if e.ident.toNat ≤ i.toNat then e.ident else i)

/-- The first entry with an identifier is started and attempted. -/
def startFirst (i : CanId) : List TxEntry → List TxEntry
  | [] => []
  | e :: es => if e.ident = i then { e with started := true, attempting := true } :: es else e :: startFirst i es

/-- An attempt is under way on the port. -/
def attemptUnderWay (p : PortState) : Bool := p.tx.any fun e => e.attempting

/-- The bus allows a transmission to begin: the entry with the lowest identifier is attempted, the first to enter among
equals (R16). A BUS_OFF port attempts nothing (R22), and a port makes one attempt at a time. -/
def beginAttempt (p : PortState) : PortState :=
  match p.bus, attemptUnderWay p, lowestIdent p.tx with
  | .onBus, false, some i => { p with tx := startFirst i p.tx }
  | _, _, _ => p

def execAttemptStart (port : Port) (s : State) : Result :=
  whileActive s fun s => { s with ports := s.ports.set port (beginAttempt (s.ports.get port)) }

/-- The entry attempted stays in the queue, started. -/
def endAttempt (q : List TxEntry) : List TxEntry := q.map fun e => { e with attempting := false }

/-- The port goes BUS_OFF (R21): its queue is emptied and counted, its idle timer starts. -/
def enterBusOff (now : Time) (p : PortState) : PortState :=
  { p with tx := [], bus := .busOff, idleSince := some now,
           stats := { countDrop p.stats p.tx.length with busOff := countUp p.stats.busOff } }

/-- The attempt under way on a port ends (R16, R20, R21). -/
def finishAttempt (port : Port) (result : AttemptResult) (s : State) : State :=
  let p := s.ports.get port
  if attemptUnderWay p then
    match result with
    | .success =>
      { s with ports := s.ports.set port { p with tx := p.tx.filter (fun e => !e.attempting), tally := p.tally - 1 } }
    | .failure =>
      let p := { p with tx := endAttempt p.tx, tally := p.tally + 8 }
      if 256 ≤ p.tally then
        { s with ports := s.ports.set port (enterBusOff s.now p) }.raise srcPortBusOff (portCode port)
      else { s with ports := s.ports.set port p }
    | .arbitrationLost => { s with ports := s.ports.set port { p with tx := endAttempt p.tx } }
  else s

def execAttemptEnd (port : Port) (result : AttemptResult) (s : State) : Result :=
  whileActive s (finishAttempt port result)

/-- The bus idle timer of a BUS_OFF port has run for 500 ms (R22). -/
def idleTimeUp (now : Time) (p : PortState) : Bool :=
  match p.bus, p.idleSince with
  | .busOff, some t => decide (500 ≤ elapsed now t)
  | _, _ => false

/-- A port returns to ON_BUS with tally 0 and an empty queue (R22). -/
def returnToBus (now : Time) (p : PortState) : PortState :=
  if idleTimeUp now p then { p with bus := .onBus, tally := 0, tx := [], idleSince := none } else p

def execBusIdleTimeout (port : Port) (s : State) : Result :=
  whileActive s fun s => { s with ports := s.ports.set port (returnToBus s.now (s.ports.get port)) }

end Sys2Proof.Machine
end

