-- ==== Sys2Proof/Machine/Forwarding.lean ====
section
/-! DEFINITION. The forwarding engine: order of service (R2), hand-offs and their deferral (R3), management frames (R4),
lookup (R5 to R7), screening (R9 to R11), actions (R13 to R15). -/
namespace Sys2Proof.Machine

/-- The port whose FIFO is served: the one that holds frames, or the one not served last (R2). -/
def portToServe (s : State) : Option Port :=
  match s.ports.a.rx, s.ports.b.rx with
  | [], [] => none
  | _ :: _, [] => some .a
  | [], _ :: _ => some .b
  | _ :: _, _ :: _ => some (otherPort s.fwd.lastServed)

/-- An entry's arrival port admits a frame of port `p` (R5). -/
def arrivalMatches (e : ArrivalPort) (p : Port) : Bool :=
  match e, p with
  | .any, _ => true
  | .a, .a => true
  | .b, .b => true
  | _, _ => false

/-- A frame matches an entry (R5). -/
def entryMatches (e : FrameEntry) (p : Port) (ident : CanId) : Bool :=
  e.enabled && decide (ident &&& e.mask = e.matchIdent &&& e.mask) && arrivalMatches e.arrival p

/-- The first entry that the frame matches (R5). -/
def lookup (t : List FrameEntry) (p : Port) (ident : CanId) : Option Nat := t.findIdx? fun e => entryMatches e p ident

/-- The length test fails (R9). -/
def malformed (e : FrameEntry) (length : Nat) : Bool :=
  decide (length < e.minLength) ||
  (match e.counterPos with | some c => decide (length ≤ c) | none => false) ||
  (match e.checkPos with | some c => decide (length ≤ c) | none => false) ||
  (match e.action with
    | .command => axes.any fun x => match e.offsets.get x with | some o => decide (length ≤ o + 1) | none => false
    | .console => decide (length < 5)
    | .engineReply => decide (length < 4)
    | _ => false)

/-- The outcome of screening: the test that discarded the frame, or acceptance with the new last accepted counter and
whether a sequence gap was counted. -/
inductive Verdict where
  | malformed
  | checkErr
  | repeated
  | accepted (last : Option Nat) (gap : Bool)
  deriving DecidableEq, Repr

/-- The check byte test fails (R10). -/
def checkFails (e : FrameEntry) (d : List Byte) : Bool :=
  match e.checkPos with
  | none => false
  | some _ => decide (byteSum d ≠ 0)

/-- The counter test (R11). -/
def counterTest (e : FrameEntry) (last : Option Nat) (d : List Byte) : Verdict :=
  match e.counterPos with
  | none => .accepted last false
  | some pos =>
    let c := (byteAt d pos).toNat % 16
    match last with
    | none => .accepted (some c) false
    | some n => if c = n then .repeated else .accepted (some c) (decide (c ≠ (n + 1) % 16))

/-- Screening: length, check byte, rolling counter (R9 to R11). -/
def screen (e : FrameEntry) (last : Option Nat) (d : List Byte) : Verdict :=
  if malformed e d.length then .malformed
  else if checkFails e d then .checkErr
  else counterTest e last d

/-- A change of the statistics of a port. -/
def State.countOn (s : State) (p : Port) (f : Stats → Stats) : State :=
  { s with ports := s.ports.set p { s.ports.get p with stats := f (s.ports.get p).stats } }

/-- A change of the screening values of an entry. -/
def State.setScreening (s : State) (i : Nat) (x : Screening) : State :=
  { s with fwd := { s.fwd with screening := s.fwd.screening.set i x } }

def State.screeningOf (s : State) (i : Nat) : Screening := s.fwd.screening.getD i resetScreening

/-! ## Hand-offs -/

/-- Every block concerned can take the hand-off (R3). -/
def canTake (s : State) (h : HandOff) : Bool :=
  match h with
  | .management _ _ => s.mgt.inbox.accepts
  | .signal _ _ _ _ => s.sig.inbox.accepts
  | .checkError _ => s.sig.inbox.accepts
  | .command _ _ _ _ => s.shp.inbox.accepts
  | .console _ => s.eco.inbox.accepts && s.shp.inbox.accepts && s.ntc.inbox.accepts && s.lim.inbox.accepts
  | .engineReply _ => s.eng.inbox.accepts

def State.toSignal (s : State) (w : SignalWork) : State := { s with sig := { s.sig with inbox := s.sig.inbox.put w } }

/-- The hand-off is made, at the present part time (R4, R10, R14, R15). A SIGNAL frame is handed over with the signal table
in force (R24), or with that of before a reload that overtook it (R7, R194). -/
def deliver (s : State) (h : HandOff) : State :=
  match h with
  | .management p d => { s with mgt := { s.mgt with inbox := s.mgt.inbox.put ⟨p, d⟩ } }
  | .signal table i f onward =>
    let s := s.toSignal (.frame (table.getD s.cfg.signal) i f.data s.now)
    match onward with
    | none => s
    | some p => s.offer p .forwarded f
  | .checkError i => s.toSignal (.checkError i s.now)
  | .command p f offsets check => { s with shp := { s.shp with inbox := s.shp.inbox.put (.command p f offsets check) } }
  | .console d =>
    { s with
      eco := { s.eco with inbox := s.eco.inbox.put d }
      shp := { s.shp with inbox := s.shp.inbox.put (.console d) }
      ntc := { s.ntc with inbox := s.ntc.inbox.put d }
      lim := { s.lim with inbox := s.lim.inbox.put d } }
  | .engineReply d => { s with eng := { s.eng with inbox := s.eng.inbox.put d } }

/-- A reload leaves the frame that the forwarding engine holds back to the old configuration (R7, R194). -/
def keptTable (old : PerRole SignalEntry) (h : HandOff) : HandOff :=
  match h with
  | .signal none i f onward => .signal (some old) i f onward
  | h => h

/-- The hand-off is made when the blocks can take it, and is held back otherwise (R3). -/
def handOver (s : State) (h : HandOff) : State :=
  if canTake s h then deliver s h else { s with fwd := { s.fwd with held := some h } }

/-- The action of the entry a frame matched, once it has passed screening (R13 to R15). -/
def act (s : State) (i : Nat) (e : FrameEntry) (p : Port) (f : Frame) : State :=
  match e.action with
  | .pass => s.offer (otherPort p) .forwarded f
  | .drop => s
  | .signal => handOver s (.signal none i f (if e.consume then none else some (otherPort p)))
  | .command => handOver s (.command p f e.offsets e.checkPos)
  | .console => handOver s (.console f.data)
  | .engineReply => handOver s (.engineReply f.data)

/-- A frame that matched entry `i` is screened, and acted on when it passes (R9 to R15). -/
def screenAndAct (s : State) (i : Nat) (e : FrameEntry) (p : Port) (f : Frame) : State :=
  let sc := s.screeningOf i
  match screen e sc.lastCounter f.data with
  | .malformed => s.countOn p fun st => { st with malformed := countUp st.malformed }
  | .checkErr =>
    handOver ((s.countOn p fun st => { st with checkErr := countUp st.checkErr }).setScreening i
      { sc with checkErrors := countUp sc.checkErrors }) (.checkError i)
  | .repeated => s.countOn p fun st => { st with repeats := countUp st.repeats }
  | .accepted last gap =>
    let s := s.setScreening i { sc with lastCounter := last }
    let s := if gap then s.countOn p fun st => { st with seqGap := countUp st.seqGap } else s
    act s i e p f

/-- A frame taken from a FIFO is classified and dealt with (R4 to R6). -/
def classify (s : State) (p : Port) (f : Frame) : State :=
  if f.ident = s.cfg.identity.request then handOver s (.management p f.data)
  else
    match lookup s.cfg.frame p f.ident with
    | some i => screenAndAct s i (s.cfg.frameEntry i) p f
    | none =>
      match s.cfg.identity.defaultAction with
      | .pass => s.offer (otherPort p) .forwarded f
      | .drop => s

/-- The head frame of the FIFO of port `p` is taken; the pointer names the port (R2). -/
def takeHead (s : State) (p : Port) (rest : List Frame) : State :=
  { s with ports := s.ports.set p { s.ports.get p with rx := rest }, fwd := { s.fwd with lastServed := p } }

/-- The forwarding engine, when free, takes one frame (R2, R3). -/
def forwardOne (s : State) : State :=
  match s.fwd.held with
  | some _ => s
  | none =>
    match portToServe s with
    | none => s
    | some p =>
      match (s.ports.get p).rx with
      | [] => s
      | f :: rest => classify (takeHead s p rest) p f

def execForwardFrame (s : State) : Result := whileRunning s forwardOne

/-- The hand-off held back is made once the blocks concerned can take it (R3). -/
def makeHeld (s : State) : State :=
  match s.fwd.held with
  | none => s
  | some h => if canTake s h then deliver { s with fwd := { s.fwd with held := none } } h else s

def execDeferredHandOff (s : State) : Result := whileRunning s makeHeld

end Sys2Proof.Machine
end

