-- ==== Sys2Proof/Config.lean ====
section
/-! DEFINITION. What the manual leaves open as a value: a constant with no body, of which nothing can be proved. -/
namespace Sys2Proof

/-- FREE VALUE (log entry 6). The sum, modulo 65536, of the configuration image taken as 16-bit words (R190). The manual
gives the rule of the sum and not how the image is packed into words, so the sum of an image that is not all 0 is left open.
The argument is the image's fields in the order of section 12.5. -/
opaque Config.imageSum : List Half → Half

/-- FREE VALUE (log entry 10). What a service history and a fault history that hold an entry add to the sum, modulo 65536,
of the counter area taken as 16-bit words (R164, R165). The manual gives the fields of the entries and not how an entry is
packed into words. The argument is the fields of the two histories in the order of R164. -/
opaque Config.historySum : List Half → Half

end Sys2Proof
end

