-- ==== Sys2Proof/Machine/Fields.lean ====
section
/-! DEFINITION. The fields of the tables as 16-bit values (section 12.5): how each table is read, how a field is written
with its range, and the rules that refuse a write (R8, R24, R41, R43, R69, R70, R99, R121, R122, R153, R161, R188). In a
`put`, `hi` is the high half of a field wider than 16 bits and `lo` its low half; a field of 16 bits is `lo` alone. -/
namespace Sys2Proof.Machine

/-! ## Values -/

/-- A number within a range. -/
def within (lo hi n : Nat) : Option Nat := if lo ≤ n ∧ n ≤ hi then some n else none

/-- A signed number within a range. -/
def withinInt (lo hi i : Int) : Option Int := if lo ≤ i ∧ i ≤ hi then some i else none

/-- A position or offset: 255 is absent, and any other value lies from 0 to `hi` (R8). -/
def positionField (hi n : Nat) : Option (Option Nat) := if n = 255 then some none else (within 0 hi n).map some

/-- A 29-bit identifier. -/
def identField (hi lo : Half) : Option CanId :=
  (within 0 536870911 (joinFields hi lo)).map fun n => BitVec.ofNat 29 n

/-- A signed value as a field. -/
def fieldOf (i : Int) : Half := halfOfInt i

def flagHalf (b : Bool) : Half := halfOf (flagOf b)

/-- The high and the low field of a value wider than 16 bits. -/
def wideFields (n : Nat) : List Half := [highField n, lowField n]

def identFields (i : CanId) : List Half := wideFields i.toNat

/-- The high and low field of a time; 0 while absent. -/
def timeFields (t : Option Time) : List Half := wideFields ((t.map fun x => x.toNat).getD 0)

/-! ## FRAME -/

def frameWords (e : FrameEntry) : List Half :=
  [flagHalf e.enabled] ++ identFields e.matchIdent ++ identFields e.mask ++
    [halfOf (arrivalCode e.arrival), halfOf (actionCode e.action), flagHalf e.consume, halfOf (orAbsent e.counterPos),
      halfOf (orAbsent e.checkPos)] ++ (e.offsets.toList.map fun o => halfOf (orAbsent o)) ++ [halfOf e.minLength]

def putFrame (field : Nat) (hi lo : Half) (e : FrameEntry) : Option FrameEntry :=
  match field with
  | 0 => (flagFrom lo.toNat).map fun x => { e with enabled := x }
  | 2 => (identField hi lo).map fun x => { e with matchIdent := x }
  | 4 => (identField hi lo).map fun x => { e with mask := x }
  | 5 => (arrivalOf lo.toNat).map fun x => { e with arrival := x }
  | 6 => (actionOf lo.toNat).map fun x => { e with action := x }
  | 7 => (flagFrom lo.toNat).map fun x => { e with consume := x }
  | 8 => (positionField 7 lo.toNat).map fun x => { e with counterPos := x }
  | 9 => (positionField 7 lo.toNat).map fun x => { e with checkPos := x }
  | 16 => (within 0 8 lo.toNat).map fun x => { e with minLength := x }
  | n =>
    if 10 ≤ n then
      match axisOf (n - 10) with
      | some a => (positionField 6 lo.toNat).map fun x => { e with offsets := e.offsets.set a x }
      | none => none
    else none

/-- A byte position lies in the two bytes of an axis offset. -/
def inOffset (pos off : Option Nat) : Bool :=
  match pos, off with
  | some p, some o => decide (p = o) || decide (p = o + 1)
  | _, _ => false

/-- The two bytes of two axis offsets overlap. -/
def offsetsOverlap (o o' : Option Nat) : Bool :=
  match o, o' with
  | some o, some o' => decide (o ≤ o' + 1) && decide (o' ≤ o + 1)
  | _, _ => false

/-- The counter position and the check position are the same byte. -/
def samePosition (p q : Option Nat) : Bool := p.isSome && decide (p = q)

/-- A position coincides with the other position or lies in an axis offset. -/
def positionBreaks (p other : Option Nat) (offsets : PerAxis (Option Nat)) : Bool :=
  samePosition p other || axes.any fun a => inOffset p (offsets.get a)

/-- The offset of an axis takes in a position or overlaps another offset. -/
def offsetBreaks (e : FrameEntry) (a : Axis) : Bool :=
  inOffset e.counterPos (e.offsets.get a) || inOffset e.checkPos (e.offsets.get a) ||
    axes.any fun b => decide (b ≠ a) && offsetsOverlap (e.offsets.get a) (e.offsets.get b)

/-- The written field breaks R8, in the entry as it would then stand. -/
def frameBreaks (field : Nat) (e : FrameEntry) : Bool :=
  match field with
  | 8 => positionBreaks e.counterPos e.checkPos e.offsets
  | 9 => positionBreaks e.checkPos e.counterPos e.offsets
  | n =>
    if 10 ≤ n then
      match axisOf (n - 10) with
      | some a => offsetBreaks e a
      | none => false
    else false

/-- An entry breaks R8 somewhere (R191). -/
def entryBreaks (e : FrameEntry) : Bool :=
  samePosition e.counterPos e.checkPos || axes.any (offsetBreaks e)

/-! ## SIGNAL -/

/-- A role's valid limits are read as signed exactly when the role's range has negative values. -/
def limitFrom (r : Role) (w : Half) : Int := if roleMin r < 0 then w.toInt else (w.toNat : Int)

def signalWords (e : SignalEntry) : List Half :=
  [flagHalf e.enabled, halfOf e.entry, halfOf e.offset, flagHalf e.lowFirst, flagHalf e.signed, fieldOf e.calibration,
    fieldOf e.validMin, fieldOf e.validMax, halfOf e.timeout, halfOf e.hold]

def putSignal (r : Role) (field : Nat) (lo : Half) (e : SignalEntry) : Option SignalEntry :=
  match field with
  | 0 => (flagFrom lo.toNat).map fun x => { e with enabled := x }
  | 1 => (within 0 63 lo.toNat).map fun x => { e with entry := x }
  | 2 => (within 0 6 lo.toNat).map fun x => { e with offset := x }
  | 3 => (flagFrom lo.toNat).map fun x => { e with lowFirst := x }
  | 4 => (flagFrom lo.toNat).map fun x => { e with signed := x }
  | 5 => some { e with calibration := lo.toInt }
  | 6 => (withinInt (roleMin r) (roleMax r) (limitFrom r lo)).map fun x => { e with validMin := x }
  | 7 => (withinInt (roleMin r) (roleMax r) (limitFrom r lo)).map fun x => { e with validMax := x }
  | 8 => (within 10 2000 lo.toNat).map fun x => { e with timeout := x }
  | 9 => (within 0 2000 lo.toNat).map fun x => { e with hold := x }
  | _ => none

/-! ## GEOMETRY and SINE -/

def geometryWords (g : Geometry) : List Half := [fieldOf g.boom, fieldOf g.arm, fieldOf g.bucket, fieldOf g.r0, fieldOf g.h0]

/-- A geometry record from its fields as they stand (R191). -/
def geometryFrom (w : List Half) : Geometry :=
  { boom := ((w.getD 0 0).toNat : Int), arm := ((w.getD 1 0).toNat : Int), bucket := ((w.getD 2 0).toNat : Int),
    r0 := (w.getD 3 0).toInt, h0 := ((w.getD 4 0).toNat : Int) }

def putGeometry (field : Nat) (lo : Half) (g : Geometry) : Option Geometry :=
  match field with
  | 0 => (withinInt 500 20000 lo.toNat).map fun x => { g with boom := x }
  | 1 => (withinInt 500 20000 lo.toNat).map fun x => { g with arm := x }
  | 2 => (withinInt 500 20000 lo.toNat).map fun x => { g with bucket := x }
  | 3 => (withinInt (-5000) 5000 lo.toInt).map fun x => { g with r0 := x }
  | 4 => (withinInt 0 10000 lo.toNat).map fun x => { g with h0 := x }
  | _ => none

def putSine (index : Nat) (lo : Half) (t : List Nat) : Option (List Nat) :=
  (within 0 32767 lo.toNat).map fun x => t.set index x

/-! ## ENVELOPE, PROFILE and HEADER -/

/-- The restricted moves as one field: bit k for axis-direction k (section 12.1). -/
def movesWord (m : PerDir Bool) : Half := halfOf (dirs.map fun d => if dirGet m d then 2 ^ dirCode d else 0).sum

/-- The restricted moves of a field; bits 12 to 15 lie outside its range (R69). -/
def movesFrom (w : Half) : Option (PerDir Bool) :=
  if w.toNat < 4096 then some (dirTabulate fun d => w.getLsbD (dirCode d)) else none

def envelopeWords (e : EnvelopeEntry) : List Half :=
  [flagHalf e.enabled, halfOf (kindCode e.kind), halfOf e.sectorFrom, halfOf e.sectorTo, fieldOf e.limit, fieldOf e.slope,
    fieldOf e.refRadius, fieldOf e.margin, halfOf e.profile, movesWord e.moves]

def putEnvelope (field : Nat) (lo : Half) (e : EnvelopeEntry) : Option EnvelopeEntry :=
  match field with
  | 0 => (flagFrom lo.toNat).map fun x => { e with enabled := x }
  | 1 => (kindOf lo.toNat).map fun x => { e with kind := x }
  | 2 => (within 0 35999 lo.toNat).map fun x => { e with sectorFrom := x }
  | 3 => (within 0 35999 lo.toNat).map fun x => { e with sectorTo := x }
  | 4 => some { e with limit := lo.toInt }
  | 5 => (withinInt (-500) 500 lo.toInt).map fun x => { e with slope := x }
  | 6 => (withinInt 0 32767 lo.toNat).map fun x => { e with refRadius := x }
  | 7 => (withinInt 0 5000 lo.toNat).map fun x => { e with margin := x }
  | 8 => (within 0 7 lo.toNat).map fun x => { e with profile := x }
  | 9 => (movesFrom lo).map fun x => { e with moves := x }
  | _ => none

def profileWords (p : Profile) : List Half := [halfOf p.count] ++ p.thresholds.map fieldOf ++ p.gains.map halfOf

def putProfile (field : Nat) (lo : Half) (p : Profile) : Option Profile :=
  match field with
  | 0 => (within 0 16 lo.toNat).map fun x => { p with count := x }
  | n =>
    if n < 17 then some { p with thresholds := p.thresholds.set (n - 1) lo.toInt }
    else if n < 33 then (within 0 1024 lo.toNat).map fun x => { p with gains := p.gains.set (n - 17) x }
    else none

/-- The threshold of slot `k`, counted from 0, stands between those of its neighbours within the count (R70). -/
def thresholdFits (p : Profile) (k : Nat) : Bool :=
  let at' (i : Nat) : Int := p.thresholds.getD i 0
  decide (p.count ≤ k) ||
    ((decide (k = 0) || decide (at' k < at' (k - 1))) && (decide (p.count ≤ k + 1) || decide (at' (k + 1) < at' k)))

/-- The written field of a profile breaks R70, in the profile as it would then stand. -/
def profileBreaks (field : Nat) (p : Profile) : Bool :=
  match field with
  | 0 => !descending (usedThresholds p)
  | n => decide (n < 17) && !thresholdFits p (n - 1)

def headerWords (h : BankHeader) : List Half :=
  [fieldOf h.decel, halfOf h.rise, halfOf h.creep, fieldOf h.linearTol, fieldOf h.angularTol]

def putHeader (field : Nat) (lo : Half) (h : BankHeader) : Option BankHeader :=
  match field with
  | 0 => (withinInt 100 5000 lo.toNat).map fun x => { h with decel := x }
  | 1 => (within 1 1024 lo.toNat).map fun x => { h with rise := x }
  | 2 => (within 0 1024 lo.toNat).map fun x => { h with creep := x }
  | 3 => (withinInt 0 2000 lo.toNat).map fun x => { h with linearTol := x }
  | 4 => (withinInt 0 2000 lo.toNat).map fun x => { h with angularTol := x }
  | _ => none

/-! ## ECONOMY -/

def economyWords (e : EconomySettings) : List Half :=
  [halfOf e.idle, halfOf e.max, halfOf e.limp, halfOf e.autoIdleDelay, halfOf e.slewStill, halfOf e.hysteresis] ++
    e.weights.toList.map halfOf ++ [halfOf e.pointCount] ++ e.demands.map halfOf ++ e.speeds.map halfOf ++
    [halfOf e.replyTimeout, halfOf e.deferralLimit, halfOf e.queueDepth]

def putEconomy (field : Nat) (lo : Half) (e : EconomySettings) : Option EconomySettings :=
  match field with
  | 0 => (within 600 1200 lo.toNat).map fun x => { e with idle := x }
  | 1 => (within 1400 2200 lo.toNat).map fun x => { e with max := x }
  | 2 => some { e with limp := lo.toNat }
  | 3 => (within 1 60 lo.toNat).map fun x => { e with autoIdleDelay := x }
  | 4 => (within 0 500 lo.toNat).map fun x => { e with slewStill := x }
  | 5 => (within 0 200 lo.toNat).map fun x => { e with hysteresis := x }
  | 12 => (within 2 8 lo.toNat).map fun x => { e with pointCount := x }
  | 29 => (within 50 2000 lo.toNat).map fun x => { e with replyTimeout := x }
  | 30 => (within 500 20000 lo.toNat).map fun x => { e with deferralLimit := x }
  | 31 => if lo.toNat = 1 ∨ lo.toNat = 4 then some { e with queueDepth := lo.toNat } else none
  | n =>
    if n < 12 then
      match axisOf (n - 6) with
      | some a => (within 0 100 lo.toNat).map fun x => { e with weights := e.weights.set a x }
      | none => none
    else if n < 21 then (within 0 1000 lo.toNat).map fun x => { e with demands := e.demands.set (n - 13) x }
    else if n < 29 then (within 600 2200 lo.toNat).map fun x => { e with speeds := e.speeds.set (n - 21) x }
    else none

/-- How many leading points ascend strictly (R122). -/
def ascendingRun : List Nat → Nat
  | a :: b :: rest => if a < b then ascendingRun (b :: rest) + 1 else 1
  | [_] => 1
  | [] => 0

/-- The demands of the points in use ascend strictly (R122). -/
def ascending (e : EconomySettings) : Bool := decide (ascendingRun (e.demands.take e.pointCount) = e.pointCount)

/-- The demand of slot `k`, counted from 0, stands between those of its neighbours within the count (R122). -/
def demandFits (e : EconomySettings) (k : Nat) : Bool :=
  let at' (i : Nat) : Nat := e.demands.getD i 0
  decide (e.pointCount ≤ k) ||
    ((decide (k = 0) || decide (at' (k - 1) < at' k)) && (decide (e.pointCount ≤ k + 1) || decide (at' k < at' (k + 1))))

/-- The written field of the settings breaks R121 or R122, in the record as it would then stand. -/
def economyBreaks (field : Nat) (e : EconomySettings) : Bool :=
  match field with
  | 0 => decide (e.limp < e.idle)
  | 1 => decide (e.max < e.limp)
  | 2 => decide (e.limp < e.idle) || decide (e.max < e.limp)
  | 12 => !ascending e
  | n => decide (13 ≤ n) && decide (n < 21) && !demandFits e (n - 13)

/-! ## SERVICE -/

def serviceWords (v : ServiceSettings) : List Half :=
  [fieldOf v.running, halfOf v.weight1, halfOf v.weight2, halfOf v.weight3, halfOf v.weight4, fieldOf v.highPressure,
    halfOf v.reminder]

def putService (field : Nat) (lo : Half) (v : ServiceSettings) : Option ServiceSettings :=
  match field with
  | 0 => (withinInt 200 800 lo.toNat).map fun x => { v with running := x }
  | 1 => (within 0 400 lo.toNat).map fun x => { v with weight1 := x }
  | 2 => (within 0 400 lo.toNat).map fun x => { v with weight2 := x }
  | 3 => (within 0 400 lo.toNat).map fun x => { v with weight3 := x }
  | 4 => (within 0 400 lo.toNat).map fun x => { v with weight4 := x }
  | 5 => (withinInt 10000 60000 lo.toNat).map fun x => { v with highPressure := x }
  | 6 => (within 60 36000 lo.toNat).map fun x => { v with reminder := x }
  | _ => none

def itemWords (d : ItemDef) : List Half :=
  [flagHalf d.enabled, halfOf d.code, halfOf (basisCode d.basis)] ++ wideFields d.interval ++ wideFields d.warnAhead ++
    wideFields d.grace ++ [flagHalf d.limp]

/-- The warn-ahead has no upper end of its own: it is to lie below the interval (R161). -/
def putItem (field : Nat) (hi lo : Half) (d : ItemDef) : Option ItemDef :=
  match field with
  | 0 => (flagFrom lo.toNat).map fun x => { d with enabled := x }
  | 1 => some { d with code := lo.toNat }
  | 2 => (basisOf lo.toNat).map fun x => { d with basis := x }
  | 4 => (within 1 2147483648 (joinFields hi lo)).map fun x => { d with interval := x }
  | 6 => some { d with warnAhead := joinFields hi lo }
  | 8 => (within 0 2147483648 (joinFields hi lo)).map fun x => { d with grace := x }
  | 9 => (flagFrom lo.toNat).map fun x => { d with limp := x }
  | _ => none

/-- The written field of an item breaks R161: the interval is no greater than the warn-ahead. -/
def itemBreaks (field : Nat) (d : ItemDef) : Bool :=
  (decide (field = 4) || decide (field = 6)) && decide (d.interval ≤ d.warnAhead)

/-! ## IDENTITY -/

def identityWords (x : Identity) : List Half :=
  identFields x.request ++ identFields x.reply ++ identFields x.guidance ++ identFields x.notice ++
    identFields x.engineRequest ++
    [halfOf (defaultActionCode x.defaultAction), halfOf x.deadband, halfOf x.guidancePeriod, halfOf x.gradeBand]

def putIdentity (field : Nat) (hi lo : Half) (d : Identity) : Option Identity :=
  match field with
  | 1 => (identField hi lo).map fun x => { d with request := x }
  | 3 => (identField hi lo).map fun x => { d with reply := x }
  | 5 => (identField hi lo).map fun x => { d with guidance := x }
  | 7 => (identField hi lo).map fun x => { d with notice := x }
  | 9 => (identField hi lo).map fun x => { d with engineRequest := x }
  | 10 => (defaultActionOf lo.toNat).map fun x => { d with defaultAction := x }
  | 11 => (within 0 200 lo.toNat).map fun x => { d with deadband := x }
  | 12 => (within 50 1000 lo.toNat).map fun x => { d with guidancePeriod := x }
  | 13 => (within 0 500 lo.toNat).map fun x => { d with gradeBand := x }
  | _ => none

/-- The management request identifier equals one of the other four (R188). -/
def requestCollides (d : Identity) : Bool :=
  decide (d.request = d.reply) || decide (d.request = d.guidance) || decide (d.request = d.notice) ||
    decide (d.request = d.engineRequest)

/-! ## Loading from the configuration area (R191) -/

/-- A record is loaded field by field on its built-in defaults: a field outside its range keeps its default. The rules
that join several fields (R8, R24, R121, R122, R161, R188) are then judged on the record so formed (model's choice: log
entry 35). -/
def loadFields {α : Type} (put : Nat → Half → Half → α → Option α) (fields : List Nat) (w : List Half) (start : α) : α :=
  fields.foldl (fun x f => (put f (w.getD (f - 1) 0) (w.getD f 0) x).getD x) start

/-- An entry that breaks R8, once its fields have been judged (log entry 35), is loaded disabled. -/
def loadFrame (w : List Half) : FrameEntry :=
  let e := loadFields putFrame [0, 2, 4, 5, 6, 7, 8, 9, 10, 11, 12, 13, 14, 15, 16] w defaultFrameEntry
  if entryBreaks e then { e with enabled := false } else e

/-- A valid max below the valid min lies outside its range and takes its default. -/
def loadSignal (r : Role) (w : List Half) : SignalEntry :=
  let e := loadFields (fun f _ lo => putSignal r f lo) (List.range 10) w (defaultSignalEntry r)
  if e.validMax < e.validMin then { e with validMax := roleMax r } else e

/-- The sine table of a list of fields; a value above 32767 takes the entry of the built-in table. -/
def loadSine (w : List Half) : List Nat :=
  (List.range 91).map fun i => (within 0 32767 (w.getD i 0).toNat).getD (builtInSine.getD i 0)

def loadEnvelope (w : List Half) : EnvelopeEntry :=
  loadFields (fun f _ lo => putEnvelope f lo) (List.range 10) w defaultEnvelopeEntry

def loadProfile (w : List Half) : Profile :=
  loadFields (fun f _ lo => putProfile f lo) (List.range 33) w defaultProfile

def loadHeader (w : List Half) : BankHeader :=
  loadFields (fun f _ lo => putHeader f lo) (List.range 5) w defaultHeader

def loadBank (b : BankImage) : Bank :=
  { header := loadHeader b.header
    entries := (List.range 16).map fun i => loadEnvelope (b.entries.getD i [])
    profiles := (List.range 8).map fun i => loadProfile (b.profiles.getD i []) }

/-- A limp speed outside idle to max is moved to the nearer end (R121); a curve whose demands do not ascend is shortened,
or replaced by the built-in curve when fewer than two points ascend (R122). Both are judged on fields already within
their ranges (log entry 35). -/
def corrected (e : EconomySettings) : EconomySettings :=
  let n := ascendingRun (e.demands.take e.pointCount)
  let e := { e with limp := max e.idle (min e.max e.limp) }
  if n < 2 then
    { e with pointCount := defaultEconomy.pointCount, demands := defaultDemands, speeds := defaultSpeeds }
  else { e with pointCount := n }

def loadEconomy (w : List Half) : EconomySettings :=
  corrected (loadFields (fun f _ lo => putEconomy f lo) (List.range 32) w defaultEconomy)

def loadService (w : List Half) : ServiceSettings :=
  loadFields (fun f _ lo => putService f lo) (List.range 7) w defaultService

/-- A warn-ahead not below the interval lies outside its range and takes its default. -/
def loadItem (w : List Half) : ItemDef :=
  let d := loadFields putItem [0, 1, 2, 4, 6, 8, 9] w defaultItem
  if d.interval ≤ d.warnAhead then { d with warnAhead := 0 } else d

/-- A record whose management request identifier, once its fields have been judged (log entry 35), equals another takes all
five built-in identifiers. -/
def loadIdentity (w : List Half) : Identity :=
  let d := loadFields putIdentity [1, 3, 5, 7, 9, 10, 11, 12, 13] w defaultIdentity
  if requestCollides d then
    { d with request := defaultIdentity.request, reply := defaultIdentity.reply, guidance := defaultIdentity.guidance,
             notice := defaultIdentity.notice, engineRequest := defaultIdentity.engineRequest }
  else d

/-- Every table, both banks and the active-bank number, from an image whose check is good (R191). -/
def loadTables (c : ConfigImage) : Tables :=
  { frame := (List.range 64).map fun i => loadFrame (c.frame.getD i [])
    signal := PerRole.tabulate fun r => loadSignal r (c.signal.getD (roleCode r) [])
    geometry := geometryFrom c.geometry
    sine := loadSine c.sine
    bank0 := loadBank c.bank0
    bank1 := loadBank c.bank1
    active := (bankOf c.active.toNat).getD .bank0
    economy := loadEconomy c.economy
    service := loadService c.service
    items := (List.range 32).map fun i => loadItem (c.items.getD i [])
    identity := loadIdentity c.identity }

/-! ## The configuration image (R182, R190) -/

def bankImage (b : Bank) : BankImage :=
  { header := headerWords b.header, entries := b.entries.map envelopeWords, profiles := b.profiles.map profileWords }

/-- The configuration image of the tables in force. -/
def imageOf (t : Tables) : ConfigImage :=
  { frame := t.frame.map frameWords
    signal := roles.map fun r => signalWords (t.signal.get r)
    geometry := geometryWords t.geometry
    sine := t.sine.map halfOf
    bank0 := bankImage t.bank0
    bank1 := bankImage t.bank1
    active := halfOf (bankCode t.active)
    economy := economyWords t.economy
    service := serviceWords t.service
    items := t.items.map itemWords
    identity := identityWords t.identity }

def bankFields (b : BankImage) : List Half := b.header ++ b.entries.flatten ++ b.profiles.flatten

/-- The fields of an image, in the order of section 12.5. -/
def imageFields (c : ConfigImage) : List Half :=
  c.frame.flatten ++ c.signal.flatten ++ c.geometry ++ c.sine ++ bankFields c.bank0 ++ bankFields c.bank1 ++ [c.active] ++
    c.economy ++ c.service ++ c.items.flatten ++ c.identity

end Sys2Proof.Machine
end

