-- ==== Sys2Proof/Machine/Areas.lean ====
section
/-! DEFINITION. The two nonvolatile areas: what they hold, their checks, and the judgement of the checks (R164, R165, R190,
R191). -/
namespace Sys2Proof.Machine

/-- The sum, modulo 65536, of content whose packing into words is left open: 0 when every field is 0, because bytes that are
all 0 sum to 0 (R165), and otherwise a free value of the fields. -/
def openSum (free : List Half → Half) (fields : List Half) : Half := if fields.all (· == 0) then 0 else free fields

/-! ## The configuration area (R190, R191) -/

/-- The sum, modulo 65536, of a configuration image as 16-bit words (R190; log entry 6). -/
def imageSum (c : ConfigImage) : Half := openSum Config.imageSum (imageFields c)

/-- The configuration check of an image: with the sum of the image it makes 65535 (R165, R190). -/
def imageCheck (c : ConfigImage) : Half := 65535 - imageSum c

/-- The configuration area passes its check (R190). -/
def configPasses (a : StoredConfig) : Bool := decide (imageSum a.image + a.check = 65535)

/-- The configuration area when its check is good (R191). -/
def goodConfig (v : StoreUnit) : Option StoredConfig := v.configArea.filter configPasses

/-- An image written with its check (R190). -/
def storedConfig (c : ConfigImage) : StoredConfig := ⟨c, imageCheck c⟩

/-! ## The counter area (R164, R165) -/

/-- The totals, accumulators and service counts as 16-bit words, high word first (R164). -/
def countWords (c : CounterImage) : List Half :=
  ([c.totals.engineTime, c.totals.weightedTime, c.totals.highPressTime, c.totals.slewTravel, c.totals.hardStops] ++
    c.accumulators).flatMap wideFields ++ c.services.map halfOf

def serviceEntryFields (x : ServiceEntry) : List Half :=
  [halfOf x.item, halfOf x.code] ++ wideFields x.accumulator ++ wideFields x.engineTime ++ wideFields x.time.toNat

def faultRecordFields (f : FaultRecord) : List Half :=
  [halfOf f.tag, halfOf (faultCode f.kind), halfOf (orAbsent (f.role.map roleCode)), halfOf (orAbsent f.entry)] ++
    wideFields f.time.toNat ++ [fieldOf f.r, fieldOf f.h, fieldOf f.psi, flagHalf f.valid, halfOf (limiterCode f.stateBefore),
    halfOf f.repeats, halfOf (closeCode f.closed)]

/-- The fields of the two histories, each after its entry count (R164). -/
def historyFields (c : CounterImage) : List Half :=
  [halfOf c.history.length] ++ c.history.flatMap serviceEntryFields ++ [halfOf c.faults.length] ++
    c.faults.flatMap faultRecordFields

/-- The sum, modulo 65536, of the content of the counter area as 16-bit words (R165; log entry 10). -/
def counterSum (c : CounterImage) : Half :=
  (countWords c).foldl (· + ·) 0 + openSum Config.historySum (historyFields c)

/-- The check of a counter area: with the sum of its content it makes 65535 (R165). -/
def counterCheck (c : CounterImage) : Half := 65535 - counterSum c

/-- The counter area passes its check (R165). -/
def countersPass (a : StoredCounters) : Bool := decide (counterSum a.image + a.check = 65535)

/-- The content of the counter area when its check is good (R168, R169). -/
def goodCounters (v : StoreUnit) : Option CounterImage := (v.counterArea.filter countersPass).map fun a => a.image

/-- A snapshot written with its check (R167). -/
def storedCounters (c : CounterImage) : StoredCounters := ⟨c, counterCheck c⟩

end Sys2Proof.Machine
end

