-- ==== Sys2Proof/Machine/Service.lean ====
section
/-! DEFINITION. The service unit (chapter 9): advances (R154 to R157), items and reminders (R158, R159), the limp condition
(R160), service done and its history (R162, R163), restore and reload (R168 to R170), and its checkpoint requests (R154,
R166). -/
namespace Sys2Proof.Machine

/-! ## Judgement of items (R158) -/

/-- An item after a judgement against a state before. A timer that runs goes on when the item was DUE or OVERDUE before
and has not become worse, or when `keep` is set (R170); an item that is disabled, OK or DUE_SOON has its timer stopped. -/
def judgedItem (d : ItemDef) (before : ItemCondition) (keep : Bool) (x : ItemState) : ItemState :=
  let c := itemCondition d x.accumulator
  if d.enabled && reminding c then
    if reminding before && (keep || !worse c before) then { x with condition := c }
    else { x with condition := c, reminder := some 0, reminderDue := false }
  else { x with condition := c, reminder := none, reminderDue := false }

def State.setItem (s : State) (i : Nat) (x : ItemState) : State :=
  { s with svc := { s.svc with items := s.svc.items.set i x } }

/-- Item `i` is judged; an enabled item whose state becomes worse raises its source (R158). -/
def judgeItem (keep : Bool) (before : ItemCondition) (i : Nat) (s : State) : State :=
  let x := judgedItem (s.cfg.item i) before keep (s.svc.item i)
  let s' := s.setItem i x
  if (s.cfg.item i).enabled && worse x.condition before then s'.raise (srcItem i) (conditionCode x.condition) else s'

/-- Item `i` is judged against the state it has. -/
def judgeAgain (s : State) (i : Nat) : State := judgeItem false (s.svc.item i).condition i s

/-- Items are judged in order against the states they have (R157). -/
def judgeAll (is : List Nat) (s : State) : State := is.foldl judgeAgain s

/-- The limp condition is judged, and a change is told to the economy unit (R160). -/
def judgeLimp (s : State) : State :=
  match limpItem s, s.svc.limpHolds with
  | some i, false =>
    { s with
      svc := { s.svc with limpHolds := true }
      eco := { s.eco with limpChanges := s.eco.limpChanges ++ [.engage i] } }
  | none, true =>
    { s with
      svc := { s.svc with limpHolds := false }
      eco := { s.eco with limpChanges := s.eco.limpChanges ++ [.disengage] } }
  | _, _ => s

/-! ## Advances (R154 to R157) -/

/-- The totals advanced by the given steps, each saturating on its own (R157). -/
def advancedTotals (steps t : Totals) : Totals :=
  { engineTime := advance32 t.engineTime steps.engineTime
    weightedTime := advance32 t.weightedTime steps.weightedTime
    highPressTime := advance32 t.highPressTime steps.highPressTime
    slewTravel := advance32 t.slewTravel steps.slewTravel
    hardStops := advance32 t.hardStops steps.hardStops }

/-- The accumulator of an enabled item advanced by the step of its basis (R157). -/
def advancedItem (steps : Totals) (d : ItemDef) (x : ItemState) : ItemState :=
  if d.enabled then { x with accumulator := advance32 x.accumulator (steps.get d.basis) } else x

/-- Every total and every accumulator concerned is advanced. -/
def advanceCounts (steps : Totals) (s : State) : State :=
  { s with svc := { s.svc with
      totals := advancedTotals steps s.svc.totals
      items := (List.range 32).map fun i => advancedItem steps (s.cfg.item i) (s.svc.item i) } }

/-- The items whose accumulators differ between two states of the unit. -/
def changedItems (old new : ServiceUnit) : List Nat :=
  (List.range 32).filter fun i => decide ((new.item i).accumulator ≠ (old.item i).accumulator)

/-- The advances are made first; the items whose accumulators changed are judged, and then the limp condition (R157). -/
def advanceBy (steps : Totals) (s : State) : State :=
  let s' := advanceCounts steps s
  judgeLimp (judgeAll (changedItems s.svc s'.svc) s')

/-- The load weight of a second (R154). -/
def loadWeight (w : ServiceSettings) (load : SignalRecord) : Nat :=
  if usable load then
    if load.value < 25 then w.weight1
    else if load.value < 50 then w.weight2
    else if load.value < 75 then w.weight3
    else w.weight4
  else w.weight2

/-- The larger of the usable pump pressures is at or above the threshold (R154). -/
def highPressure (threshold : Int) (p q : SignalRecord) : Bool :=
  (usable p && decide (threshold ≤ p.value)) || (usable q && decide (threshold ≤ q.value))

/-- What one expiry of the one-second timer advances (R154). -/
def secondSteps (s : State) : Totals :=
  { engineTime := flagOf (engineRunning s)
    weightedTime := if engineRunning s then loadWeight s.cfg.service s.sig.records.engineLoad else 0
    highPressTime := flagOf (highPressure s.cfg.service.highPressure s.sig.records.pumpPress1 s.sig.records.pumpPress2)
    slewTravel := 0
    hardStops := 0 }

/-- A reminder timer that runs is advanced, and is due once it stands at or above the reminder period (R159). -/
def advancedReminder (period : Nat) (x : ItemState) : ItemState :=
  match x.reminder with
  | none => x
  | some n => if x.reminderDue then x else { x with reminder := some (n + 1), reminderDue := decide (period ≤ n + 1) }

/-- The work of a running second: the checkpoint interval count and the reminder timers (R154, R159). -/
def runningSecond (s : State) : State :=
  { s with svc := { s.svc with
      intervalCount := min (s.svc.intervalCount + 1) 360
      items := s.svc.items.map (advancedReminder s.cfg.service.reminder) } }

/-- The notifications that wait when the engine-side roles have been read from their records: one that names no SLEW_ANGLE
is finished (R154; log entry 46). -/
def slewNotes (ns : List ServiceNote) : List ServiceNote := ns.filter fun n => n.slew.isSome

/-- One expiry of the one-second timer (R154). -/
def secondExpiry (s : State) : State :=
  let s' := advanceBy (secondSteps s) { s with svc := { s.svc with
    nextSecond := instantAfter s.svc.nextSecond 1000, notes := slewNotes s.svc.notes } }
  if engineRunning s then runningSecond s' else s'

def execOneSecondTick (s : State) : Result :=
  whileRunning s fun s => if reached s.now s.svc.nextSecond then secondExpiry s else s

/-- The checkpoint interval count has reached 360 (R154). -/
def execCheckpointInterval (s : State) : Result :=
  whileRunning s fun s =>
    if 360 ≤ s.svc.intervalCount then { s with svc := { s.svc with intervalCount := 0 } }.requestCheckpoint else s

/-- The reminder of an item is due: its source is raised again, and its timer returns to 0 (R159). -/
def remind (i : Nat) (s : State) : State :=
  let x := s.svc.item i
  if x.reminderDue && (s.cfg.item i).enabled && reminding x.condition then
    (s.setItem i { x with reminder := some 0, reminderDue := false }).raise (srcItem i) (conditionCode x.condition)
  else s

def execReminderExpiry (item : Fin 32) (s : State) : Result := whileRunning s (remind item.val)

/-- The short way between two slew angles (R155). -/
def slewStep (previous new : Int) : Nat :=
  let d := (new - previous) % 36000
  (if d ≤ 18000 then d else 36000 - d).toNat

/-- The first notification that names SLEW_ANGLE, and what waits behind it; the ones before it carry no work (R35, R155; log
entry 46). -/
def nextSlew : List ServiceNote → Option (SlewStep × List ServiceNote)
  | [] => none
  | n :: rest =>
    match n.slew with
    | some x => some (x, rest)
    | none => nextSlew rest

/-- A SLEW_ANGLE notification; without a previous value nothing is advanced (R155). -/
def takeSlewStep (x : SlewStep) (s : State) : State :=
  match x.previous with
  | none => s
  | some p => advanceBy { zeroTotals with slewTravel := slewStep p x.value } s

def execSlewTravelAdvance (s : State) : Result :=
  whileRunning s fun s =>
    match nextSlew s.svc.notes with
    | none => s
    | some (x, rest) => takeSlewStep x { s with svc := { s.svc with notes := rest } }

def execHardStopsAdvance (s : State) : Result :=
  whileRunning s fun s =>
    match s.svc.hardStopReports with
    | 0 => s
    | n + 1 => advanceBy { zeroTotals with hardStops := 1 } { s with svc := { s.svc with hardStopReports := n } }

/-! ## PWR_WARN (R166) -/

/-- The PWR_WARN line takes a level; its change from negated to asserted requests a checkpoint. -/
def setPowerWarning (level : Bool) (s : State) : State :=
  let s' := { s with pwrWarn := level }
  if level && !s.pwrWarn then s'.requestCheckpoint else s'

def execPwrWarnAsserted (level : Bool) (s : State) : Result := whileActive s (setPowerWarning level)

/-! ## Service done (R162, R163) -/

/-- An entry is appended to the service history; the oldest of 16 is removed first (R163). -/
def appendService (h : List ServiceEntry) (x : ServiceEntry) : List ServiceEntry :=
  (if 16 ≤ h.length then h.drop (h.length - 15) else h) ++ [x]

/-- The history entry of a SERVICE_DONE (R162, step 1). -/
def serviceEntry (i : Nat) (s : State) : ServiceEntry :=
  { item := i, code := (s.cfg.item i).code, accumulator := (s.svc.item i).accumulator,
    engineTime := s.svc.totals.engineTime, time := s.now }

/-- A raise of the given source. -/
def raises (source : Nat) (m : NoticeMessage) : Bool :=
  match m with
  | .raise k _ => decide (k = source)

/-- The argument of a source after the raises of it that stand in a list (R172). -/
def latestArgument (source argument : Nat) (ms : List NoticeMessage) : Nat :=
  ms.foldl (fun a m => match m with | .raise k b => if k = source then b else a) argument

/-- The pending flag of a source is cleared, with the raises of it that the notice unit has not yet taken; they leave their
argument (R162 step 4, R172, R179; log entry 20). -/
def State.clearNotice (s : State) (source : Nat) : State :=
  { s with ntc := { s.ntc with
      sources := s.ntc.sources.set source { s.ntc.source source with
        pending := false, argument := latestArgument source (s.ntc.source source).argument s.ntc.messages }
      messages := s.ntc.messages.filter fun m => !raises source m } }

/-- The effect of an accepted SERVICE_DONE on the service unit and its neighbours (R162, steps 1 to 6). -/
def doService (i : Nat) (s : State) : State :=
  let x := s.svc.item i
  let s' := { s with svc := { s.svc with history := appendService s.svc.history (serviceEntry i s) } }
  let s' := s'.setItem i { x with accumulator := 0, services := countWrap x.services }
  (judgeLimp ((judgeAgain s' i).clearNotice (srcItem i))).requestCheckpoint

/-! ## Restore and reload (R168 to R170) -/

/-- Every item is judged as one whose state before had been OK (R168). -/
def judgeFromOk (s : State) : State := (List.range 32).foldl (fun s i => judgeItem false .ok i s) s

/-- The counts of a good counter area (R168); the last allocated tag of the limiter supervisor becomes that of the newest
history entry (R118). -/
def restoredCounts (c : CounterImage) (s : State) : State :=
  { s with
    svc := { s.svc with
      totals := c.totals
      items := (List.range 32).map fun i =>
        { s.svc.item i with accumulator := c.accumulators.getD i 0, services := c.services.getD i 0 }
      history := c.history }
    lim := { s.lim with history := c.faults, lastTag := (c.faults.getLast?.map fun f => f.tag).getD 0 } }

/-- The counts after a failed check (R169): an enabled item stands at its interval. -/
def lostCounts (s : State) : State :=
  { s with
    svc := { s.svc with
      totals := zeroTotals
      items := (List.range 32).map fun i =>
        { s.svc.item i with accumulator := if (s.cfg.item i).enabled then (s.cfg.item i).interval else 0, services := 0 }
      history := [] }
    lim := { s.lim with history := [], lastTag := 0 } }

/-- A limp engagement found by the restore is taken by the economy unit at once (R128, R136, R192; log entry 19). -/
def takeLimp (s : State) : State :=
  match s.eco.limpChanges with
  | [] => s
  | c :: rest => handleLimp c { s with eco := { s.eco with limpChanges := rest } }

/-- The restore of the counter area at full reset, its check judged (R165, R168, R169). At a failed check the limp
engagement precedes SERVICE_COUNTS_LOST, as in R169's text (model's choice: log entry 19). -/
def restoreCounters (s : State) : State :=
  match goodCounters s.sto with
  | some c => takeLimp (judgeLimp (judgeFromOk (restoredCounts c s)))
  | none => ((takeLimp (judgeLimp (judgeFromOk (lostCounts s)))).raise srcServiceCountsLost 0).requestCheckpoint

/-- The state an item had before a reload; a disabled item counts as having been OK (R170). -/
def conditionBefore (old : Tables) (v : ServiceUnit) (i : Nat) : ItemCondition :=
  if (old.item i).enabled then (v.item i).condition else .ok

/-- The service unit's work at a reload, the tables having been replaced (R170). -/
def reloadService (old : Tables) (s : State) : State :=
  judgeLimp ((List.range 32).foldl (fun s i => judgeItem true (conditionBefore old s.svc i) i s) s)

/-- The work after an accepted write to a service item: the item is judged, as one that had been OK when the write enabled
it, and then the limp condition (R158, R161). -/
def itemWritten (old : Tables) (i : Nat) (s : State) : State :=
  judgeLimp (judgeItem false (conditionBefore old s.svc i) i s)

end Sys2Proof.Machine
end

