-- ==== Sys2Proof/Machine/Notices.lean ====
section
/-! DEFINITION. The notice unit (chapter 10): posting (R173), the notice frame (R175), raises and preemption (R172, R176),
the console's part (R177, R178) and the enables (R180). -/
namespace Sys2Proof.Machine

def State.setNotice (s : State) (v : NoticeUnit) : State := { s with ntc := v }

/-- A change of the state of one source. -/
def NoticeUnit.update (v : NoticeUnit) (i : Nat) (f : SourceState → SourceState) : NoticeUnit :=
  { v with sources := v.sources.set i (f (v.source i)) }

/-! ## The notice frame (R175, section 12.2) -/

/-- The item code of a source: that of its service item, read at composition (R175). -/
def itemCode (t : Tables) (source : Nat) : Nat :=
  if 12 ≤ source ∧ source < 44 then (t.item (source - 12)).code else 0

/-- The notice frame of the slot; `fresh` marks the frame of a posting. -/
def noticeFrame (t : Tables) (v : NoticeUnit) (fresh : Bool) : Frame :=
  let source : Nat := match v.slot with | some n => n.source | none => 255
  let argument : Nat := match v.slot with | some n => n.argument | none => 0
  composedChecked t.identity.notice
    ([byteOf source, byteOf (flagOf (!maskable source) + 2 * flagOf fresh)] ++ halfBytes (halfOf argument) ++
      halfBytes (halfOf (itemCode t source)) ++ [byteOf (v.counter % 16)])

/-- A notice frame is composed and offered to port A, and the counter is advanced (R175). -/
def sendNotice (fresh : Bool) (s : State) : State :=
  { s with ntc := { s.ntc with counter := (s.ntc.counter + 1) % 16 } }.offer .a .own (noticeFrame s.cfg s.ntc fresh)

/-! ## Posting (R173) -/

/-- The lowest-numbered source that is pending and eligible. -/
def nextSource (v : NoticeUnit) : Option Nat :=
  (List.range 44).find? fun i => (v.source i).pending && eligible v i

/-- The slot takes a source and its argument; the pending and enable flags of the source are cleared. -/
def takeSlot (v : NoticeUnit) (i : Nat) : NoticeUnit :=
  { v.update i (fun x => { x with pending := false, enabled := false }) with slot := some ⟨i, (v.source i).argument⟩ }

/-- A source is posted. -/
def post (i : Nat) (s : State) : State := sendNotice true (s.setNotice (takeSlot s.ntc i))

/-- The posting check. -/
def postingCheck (s : State) : State :=
  match s.ntc.slot with
  | some _ => s
  | none =>
    match nextSource s.ntc with
    | some i => post i s
    | none => s

/-! ## Raises (R172, R176) -/

/-- The preempted source returns to the pending set, and the slot is empty (R176, step 1). -/
def emptyByPreemption (v : NoticeUnit) (i : Nat) : NoticeUnit :=
  { v.update i (fun x => { x with pending := true, enabled := true }) with slot := none }

/-- The notice unit takes a raise (R172). -/
def takeRaise (source argument : Nat) (s : State) : State :=
  let s := s.setNotice (s.ntc.update source fun x => { x with pending := true, argument := argument })
  match s.ntc.slot with
  | none => postingCheck s
  | some n =>
    if maskable n.source && !maskable source then postingCheck (s.setNotice (emptyByPreemption s.ntc n.source)) else s

def execNoticeRaise (s : State) : Result :=
  whileRunning s fun s =>
    match s.ntc.messages with
    | .raise source argument :: rest =>
      takeRaise source argument { s with ntc := { s.ntc with messages := rest } }
    | [] => s

/-! ## The console frame (R177, R178) -/

/-- The acknowledgement names the notice in the slot (R178). -/
def acknowledges (v : NoticeUnit) (source : Nat) : Bool :=
  match v.slot with
  | none => false
  | some n => decide (n.source = source)

/-- An acknowledgement: taken, or counted as a mismatch (R178). -/
def judgeAck (source : Nat) (v : NoticeUnit) : NoticeUnit :=
  if acknowledges v source then
    { v.update source (fun x => { x with enabled := true }) with slot := none }
  else { v with mismatches := countUp v.mismatches }

/-- The notice unit after the mute flag and the acknowledgement of a console frame (R177, steps 1 and 2). -/
def consoleTaken (d : List Byte) (v : NoticeUnit) : NoticeUnit :=
  let v := { v with mute := consoleMute d }
  if consoleNoticeAck d = 255 then v else judgeAck (consoleNoticeAck d) v

/-- The notice unit's part of a console frame: mute, acknowledgement, posting check, and then the refresh, or the empty
frame when an acknowledgement has emptied the slot for good (R175, R177). -/
def noticeConsole (d : List Byte) (s : State) : State :=
  let v := consoleTaken d s.ntc
  let s' := s.setNotice v
  match v.slot with
  | some _ => sendNotice false s'
  | none =>
    match nextSource v with
    | some i => post i s'
    | none => if s.ntc.slot.isSome then sendNotice false s' else s'

def execNoticeConsole (s : State) : Result :=
  whileRunning s fun s =>
    match s.ntc.inbox.inHand with
    | none => s
    | some d => noticeConsole d { s with ntc := { s.ntc with inbox := s.ntc.inbox.finish } }

/-! ## Enables (R180) -/

/-- An accepted SET_NOTICE_ENABLE; setting an enable is followed by the posting check (R180). -/
def setEnable (source : Nat) (on : Bool) (s : State) : State :=
  let s' := s.setNotice (s.ntc.update source fun x => { x with enabled := on })
  if on then postingCheck s' else s'

end Sys2Proof.Machine
end

