-- ==== Sys2Proof/Machine/Reads.lean ====
section
/-! DEFINITION. What READ_FIELD returns: the fields of a table and the block state read under it, in the order of section
12.5 (R38, R56, R72, R100, R138, R152, R165, R181, R186, R196). -/
namespace Sys2Proof.Machine

/-- The tables by name. -/
inductive Table where
  | frame
  | signal
  | geometry
  | sine
  | envelope
  | profile
  | header
  | economy
  | service
  | identity
  deriving DecidableEq, Repr

/-- The tables by number (section 12.5). -/
def tableOf (n : Nat) : Option Table :=
  match n with
  | 1 => some .frame
  | 2 => some .signal
  | 3 => some .geometry
  | 4 => some .sine
  | 5 => some .envelope
  | 6 => some .profile
  | 7 => some .header
  | 8 => some .economy
  | 9 => some .service
  | 10 => some .identity
  | _ => none

/-- A shadow table is written in the shadow bank; every other table is live (R182). -/
def isShadow (t : Table) : Bool :=
  match t with
  | .envelope => true
  | .profile => true
  | .header => true
  | _ => false

/-- A bank selector: ACTIVE 0, SHADOW 1 (section 12.1). -/
inductive Selector where
  | active
  | shadow
  deriving DecidableEq, Repr

def selectorOf (n : Nat) : Option Selector :=
  match n with
  | 0 => some .active
  | 1 => some .shadow
  | _ => none

/-- The selector byte of a request; for a live table it is ignored (R186, R187). -/
def selectorFor (t : Table) (n : Nat) : Option Selector := if isShadow t then selectorOf n else some .active

def selectedBank (t : Tables) (x : Selector) : Bank :=
  match x with
  | .active => t.activeBank
  | .shadow => t.shadowBank

/-! ## State read under the tables -/

/-- The screening values of an entry; the last accepted counter reads 0 while absent (R196; log entry 17). -/
def screeningFields (x : Screening) : List Half := [halfOf (x.lastCounter.getD 0), halfOf x.checkErrors]

def recordFields (r : SignalRecord) : List Half :=
  [fieldOf r.value, halfOf (signalStateCode r.state)] ++ timeFields r.accepted ++ [halfOf r.outOfRange]

def positionFields (g : Geometry) (p : PositionRecord) : List Half :=
  [flagHalf (geometryValid g), fieldOf p.r, fieldOf p.h, fieldOf p.psi, fieldOf p.omega, flagHalf p.valid, flagHalf p.clamped]
    ++ timeFields p.computedAt ++ [halfOf p.count]

/-- The read-only fields of an envelope entry; the distance record is that of the active bank (R72). -/
def entryStateFields (b : Bank) (d : DistanceRecord) (x : Selector) (i : Nat) : List Half :=
  let e := d.entries.getD i ⟨false, 0, false⟩
  [flagHalf (inconsistent b (b.entryAt i))] ++
    (match x with
    | .active => [flagHalf e.applicable, fieldOf e.distance, flagHalf e.breached]
    | .shadow => [0, 0, 0])

def headerStateFields (s : State) : List Half :=
  [halfOf (bankCode s.cfg.active), flagHalf s.env.activation.isSome] ++ (dirList s.env.distance.targets).map halfOf ++
    (dirList s.env.distance.restrictive).map (fun n => halfOf (orAbsent n)) ++ [halfOf s.env.distance.count]

/-- A target with its reason; none reads 0 (R138). -/
def targetFields (t : Option Target) : List Half :=
  match t with
  | none => [0, 0]
  | some t => [halfOf t.rpm, halfOf (reasonCode t.reason)]

/-- The time elapsed on a timer; 0 while it is stopped. -/
def elapsedOn (now : Time) (t : Option Time) : Nat :=
  match t with
  | none => 0
  | some t => elapsed now t

def economyStateFields (now : Time) (u : EconomyUnit) : List Half :=
  [halfOf (u.dial.getD 0), halfOf (modeCode u.mode), flagHalf u.autoIdleOn, halfOf u.dialClamps, halfOf (economyCode u.state),
    flagHalf u.timer.isSome, halfOf (elapsedOn now u.timer), fieldOf (u.lastSlew.getD (-32768)), halfOf u.demand,
    flagHalf u.limp] ++ targetFields u.target ++ targetFields u.lastIssued

def engineEntryFields (e : EngineEntry) : List Half :=
  [halfOf e.tag, halfOf e.target.rpm, halfOf (reasonCode e.target.reason)] ++ wideFields e.issued.toNat ++
    [if e.second then 2 else 1, flagHalf e.deferred]

/-- The fields of entry `k` of the queue; an entry beyond the count reads 0. -/
def queueSlotFields (q : EngineQueue) (k : Nat) : List Half :=
  match q.entries[k]? with
  | none => List.replicate 7 0
  | some e => engineEntryFields e

def lastReplyFields (r : Option EngineReply) : List Half :=
  match r with
  | none => List.replicate 5 0
  | some r => [halfOf r.tag, halfOf r.status, halfOf r.rpm] ++ wideFields r.time.toNat

def queueFields (q : EngineQueue) : List Half :=
  [halfOf q.entries.length] ++ (List.range 4).flatMap (queueSlotFields q) ++ targetFields q.pendingTarget ++
    [halfOf q.lastTag, halfOf q.refusals] ++ lastReplyFields q.lastReply ++
    [halfOf q.skipped, halfOf q.stray, halfOf q.refused, halfOf q.reissued, halfOf q.linkFault]

def totalsFields (t : Totals) : List Half :=
  wideFields t.engineTime ++ wideFields t.weightedTime ++ wideFields t.highPressTime ++ wideFields t.slewTravel ++
    wideFields t.hardStops

/-- The counter write state: WRITING while the counter area is written (R165). -/
def writingCounters (v : StoreUnit) : Bool :=
  match v.activity with
  | .writingCounters _ => true
  | _ => false

/-- The state of the store controller (R165); a time that is none reads 0. -/
def storeFields (v : StoreUnit) : List Half :=
  [flagHalf (writingCounters v), flagHalf v.checkpointPending, halfOf v.checkpointCount] ++ timeFields v.lastCheckpoint

/-- The reminder timer reads 65535 while stopped (section 12.5). -/
def itemStateFields (x : ItemState) : List Half :=
  wideFields x.accumulator ++
    [halfOf x.services, halfOf (conditionCode x.condition), halfOf (x.reminder.getD 65535)]

def shapingFields (v : ShapingUnit) : List Half :=
  (dirList v.heldGains).map halfOf ++ v.lastRaw.toList.map fieldOf ++ v.lastShaped.toList.map fieldOf ++
    (dirList v.hardStops).map flagHalf ++
    [halfOf v.clampCount, flagHalf v.gradeHold, flagHalf v.inBand, halfOf (orAbsent v.activeGrade),
      fieldOf (v.tipToGrade.getD (-32768)), halfOf v.guidanceCounter]

/-- The slot's source reads 255 while it is empty, and its argument 0 (R181). -/
def noticeFields (v : NoticeUnit) : List Half :=
  v.sources.map (fun x => flagHalf x.pending) ++ v.sources.map (fun x => flagHalf x.enabled) ++
    v.sources.map (fun x => halfOf x.argument) ++
    [flagHalf v.mute, halfOf (orAbsent (v.slot.map fun n => n.source)), halfOf ((v.slot.map fun n => n.argument).getD 0),
      halfOf v.counter, halfOf v.mismatches]

/-! ## The fields of a table and index (section 12.5) -/

/-- The fields that can be written, as they stand; an index that the table does not hold gives none. -/
def configFields (s : State) (t : Table) (x : Selector) (index : Nat) : Option (List Half) :=
  match t with
  | .frame => if index < 64 then some (frameWords (s.cfg.frameEntry index)) else none
  | .signal => (roleOf index).map fun r => signalWords (s.cfg.signal.get r)
  | .geometry => if index = 0 then some (geometryWords s.cfg.geometry) else none
  | .sine => if index < 91 then some [halfOf (s.cfg.sine.getD index 0)] else none
  | .envelope => if index < 16 then some (envelopeWords ((selectedBank s.cfg x).entryAt index)) else none
  | .profile => if index < 8 then some (profileWords ((selectedBank s.cfg x).profileAt index)) else none
  | .header => if index = 0 then some (headerWords (selectedBank s.cfg x).header) else none
  | .economy => if index = 0 then some (economyWords s.cfg.economy) else if index = 1 then some [] else none
  | .service =>
    if index = 0 then some (serviceWords s.cfg.service)
    else if index < 33 then some (itemWords (s.cfg.item (index - 1)))
    else none
  | .identity => if index = 0 then some (identityWords s.cfg.identity) else if index < 3 then some [] else none

/-- The read-only fields that follow them. -/
def stateFields (s : State) (t : Table) (x : Selector) (index : Nat) : List Half :=
  match t with
  | .frame => screeningFields (s.fwd.screening.getD index resetScreening)
  | .signal => (match roleOf index with | some r => recordFields (s.sig.records.get r) | none => [])
  | .geometry => positionFields s.cfg.geometry s.pos.record
  | .sine => []
  | .envelope => entryStateFields (selectedBank s.cfg x) s.env.distance x index
  | .profile => []
  | .header => headerStateFields s
  | .economy => if index = 0 then economyStateFields s.now s.eco else queueFields s.eng
  | .service =>
    if index = 0 then totalsFields s.svc.totals ++ storeFields s.sto else itemStateFields (s.svc.item (index - 1))
  | .identity =>
    if index = 0 then [halfOf s.mgt.shortFrames]
    else if index = 1 then shapingFields s.shp
    else noticeFields s.ntc

/-- The value of a field; an index or field that the table does not hold gives none (R186). -/
def fieldValue (s : State) (t : Table) (x : Selector) (index field : Nat) : Option Half :=
  match configFields s t x index with
  | none => none
  | some w => (w ++ stateFields s t x index)[field]?

/-- The field can be read and not written (R187). -/
def readOnly (s : State) (t : Table) (x : Selector) (index field : Nat) : Bool :=
  match configFields s t x index with
  | none => false
  | some w => decide (w.length ≤ field)

end Sys2Proof.Machine
end

