-- ==== Sys2Proof/Machine/Writes.lean ====
section
/-! DEFINITION. WRITE_FIELD: the checks in their order (R184), the held high halves (R161, R187), the written tables, and
what follows an accepted write (R12, R33, R40, R121, R150, R158, R161). -/
namespace Sys2Proof.Machine

def tableCode (t : Table) : Nat :=
  match t with
  | .frame => 1
  | .signal => 2
  | .geometry => 3
  | .sine => 4
  | .envelope => 5
  | .profile => 6
  | .header => 7
  | .economy => 8
  | .service => 9
  | .identity => 10

/-- A field that holds the high half of a wider one (section 12.5). -/
def isHigh (t : Table) (index field : Nat) : Bool :=
  match t with
  | .frame => decide (field = 1 ∨ field = 3)
  | .identity => decide (index = 0 ∧ field < 10 ∧ field % 2 = 0)
  | .service => decide (1 ≤ index ∧ (field = 3 ∨ field = 5 ∨ field = 7))
  | _ => false

/-- A field that holds the low half of a wider one. -/
def isLow (t : Table) (index field : Nat) : Bool := decide (1 ≤ field) && isHigh t index (field - 1)

/-! ## Held high halves (R161, R187) -/

/-- The high half held for a low field, when it names the same table, index and field. -/
def matchingHalf (t : Table) (index field : Nat) (s : State) : Option Half :=
  match t with
  | .service =>
    match s.svc.heldHigh with
    | none => none
    | some h => if h.item + 1 = index ∧ h.field + 1 = field then some h.value else none
  | _ =>
    match s.mgt.heldHigh with
    | none => none
    | some h => if h.table = tableCode t ∧ h.index = index ∧ h.field + 1 = field then some h.value else none

def State.dropServiceHalf (s : State) : State := { s with svc := { s.svc with heldHigh := none } }

def State.dropHalf (s : State) : State := { s with mgt := { s.mgt with heldHigh := none } }

/-- A low field uses up the half: that of the SERVICE table at every write of a low field, the other at a matching one. Only a
write that reaches the judgement of its value does so (model's choice: log entry 30). -/
def useHalf (t : Table) (index field : Nat) (s : State) : State :=
  if isLow t index field then
    match t with
    | .service => s.dropServiceHalf
    | _ => if (matchingHalf t index field s).isSome then s.dropHalf else s
  else s

/-- An accepted write drops the half of the management unit, and one to the SERVICE table that of the service unit. -/
def dropAtWrite (t : Table) (s : State) : State :=
  match t with
  | .service => s.dropServiceHalf.dropHalf
  | _ => s.dropHalf

/-- The write of a high field: nothing but the held half changes. -/
def holdHalf (t : Table) (index field : Nat) (v : Half) (s : State) : State :=
  match t with
  | .service =>
    { s.dropHalf with svc := { s.svc with heldHigh := some { item := index - 1, field := field, value := v } } }
  | _ =>
    { s with mgt := { s.mgt with
        heldHigh := some { table := tableCode t, index := index, field := field, value := v } } }

/-! ## The written tables -/

/-- A result that a table's own rule may refuse. -/
def refusedIf (refused : Bool) (x : α) : Option α := if refused then none else some x

/-- A change of the shadow bank. -/
def Tables.setShadow (c : Tables) (b : Bank) : Tables := c.setBank (otherBank c.active) b

/-- The tables after a write, with `hi` as the high half of a wide field; none when the value or a rule refuses it. -/
def written (t : Table) (index field : Nat) (hi lo : Half) (c : Tables) : Option Tables :=
  match t with
  | .frame => (putFrame field hi lo (c.frameEntry index)).bind fun e =>
      refusedIf (frameBreaks field e) { c with frame := c.frame.set index e }
  | .signal => (roleOf index).bind fun r => (putSignal r field lo (c.signal.get r)).bind fun e =>
      refusedIf (decide (e.validMax < e.validMin)) { c with signal := c.signal.set r e }
  | .geometry => (putGeometry field lo c.geometry).map fun g => { c with geometry := g }
  | .sine => (putSine index lo c.sine).map fun t => { c with sine := t }
  | .envelope => (putEnvelope field lo (c.shadowBank.entryAt index)).map fun e =>
      c.setShadow { c.shadowBank with entries := c.shadowBank.entries.set index e }
  | .profile => (putProfile field lo (c.shadowBank.profileAt index)).bind fun p =>
      refusedIf (profileBreaks field p) (c.setShadow { c.shadowBank with profiles := c.shadowBank.profiles.set index p })
  | .header => (putHeader field lo c.shadowBank.header).map fun h => c.setShadow { c.shadowBank with header := h }
  | .economy => (putEconomy field lo c.economy).bind fun e => refusedIf (economyBreaks field e) { c with economy := e }
  | .service =>
    if index = 0 then (putService field lo c.service).map fun v => { c with service := v }
    else (putItem field hi lo (c.item (index - 1))).bind fun d =>
      refusedIf (itemBreaks field d) { c with items := c.items.set (index - 1) d }
  | .identity => (putIdentity field hi lo c.identity).bind fun d =>
      refusedIf (requestCollides d) { c with identity := d }

/-! ## What follows an accepted write -/

/-- The screening values of an entry are reset and its error window is emptied (R12, R40). -/
def frameWritten (i : Nat) (s : State) : State := (s.setScreening i resetScreening).setWindow i []

/-- The effects of an accepted write beside the field itself; `old` holds the tables before it. A write of the auto-idle delay
whose expiry occurs at the write (R121), or of the queue depth (R150), may send an engine request frame, which goes before
the reply to WRITE_FIELD (model's choice: log entry 42). -/
def afterWrite (old : Tables) (t : Table) (index field : Nat) (s : State) : State :=
  match t with
  | .frame => frameWritten index s
  | .signal =>
    match roleOf index with
    | none => s
    | some r => if 8 ≤ field then replaceExpiries r s else s
  | .economy => if field = 3 then expireAutoIdle s else if field = 31 then depthWritten s else s
  | .service => if index = 0 then s else itemWritten old (index - 1) s
  | _ => s

/-- The value is judged (R184, check 6) and the write carried out. -/
def carryOutWrite (t : Table) (index field : Nat) (v : Half) (s : State) : Status × State :=
  if isHigh t index field then (.ok, holdHalf t index field v s)
  else
    let s' := useHalf t index field s
    match written t index field ((matchingHalf t index field s).getD 0) v s.cfg with
    | none => (.badValue, s')
    | some c =>
      let s' := dropAtWrite t s'
      (.ok, afterWrite s.cfg t index field { s' with cfg := c, mgt := { s'.mgt with modified := true } })

/-- The state of the part permits the write (R184, check 5). -/
def mayWrite (s : State) (t : Table) (x : Selector) (index field : Nat) : Bool :=
  !readOnly s t x index field &&
    (if isShadow t then decide (x = .shadow) else !engineRunning s)

/-- WRITE_FIELD, from check 3 on (R184, R187). R161 and R187 have the held half become none at the write of the low field, and
R184 has a request that fails a check change nothing: a low field answered LOCKED, NOT_ALLOWED, BAD_TABLE or BAD_INDEX leaves
the held half, and one answered BAD_VALUE uses it up (model's choice: log entry 30). -/
def writeField (d : List Byte) (s : State) : Status × State :=
  let index := requestByte d 3
  let field := requestByte d 4
  match tableOf (requestByte d 2) with
  | none => (.badTable, s)
  | some t =>
    if !isShadow t && !s.maintEn then (.locked, s)
    else
      match selectorFor t (requestByte d 5) with
      | none => (.badIndex, s)
      | some x =>
        match fieldValue s t x index field with
        | none => (.badIndex, s)
        | some _ =>
          if mayWrite s t x index field then carryOutWrite t index field (requestValue d) s else (.notAllowed, s)

end Sys2Proof.Machine
end

