-- ==== Sys2Proof/Machine/Management.lean ====
section
/-! DEFINITION. The management unit (chapter 11): the order of the checks (R184, R185) and the requests of section 11.3. The
checks of MAINT_EN read the line as sampled with the request. -/
namespace Sys2Proof.Machine

def State.finishManagement (s : State) : State := { s with mgt := { s.mgt with inbox := s.mgt.inbox.finish } }

/-- The answer to a request, on its arrival port (R183). -/
def answer (m : ManagementFrame) (st : Status) (results : List Byte) (s : State) : State :=
  s.reply m.port (byteAt m.data 0) (byteAt m.data 1) st results

/-- The management unit takes the frame in hand when it is a request of the given kind (R183, R185). -/
def takeRequest (is : Nat → Bool) (f : ManagementFrame → State → State) (s : State) : Result :=
  whileRunning s fun s =>
    match s.mgt.inbox.inHand with
    | none => s
    | some m => if 8 ≤ m.data.length ∧ is (requestCode m.data) = true then f m s.finishManagement else s

/-- A request that is not served while another is in progress (R185). -/
def unlessBusy (f : ManagementFrame → State → State) (m : ManagementFrame) (s : State) : State :=
  if s.mgt.progress.isSome then answer m .busy [] s else f m s

/-- A request that needs MAINT_EN (R184, check 3). -/
def needsMaintEn (f : ManagementFrame → State → State) (m : ManagementFrame) (s : State) : State :=
  if s.maintEn then f m s else answer m .locked [] s

/-- The MAINT_EN line is sampled (R184). -/
def sampled (maintEn : Bool) (f : ManagementFrame → State → State) (m : ManagementFrame) (s : State) : State :=
  f m { s with maintEn := maintEn }

/-- Result bytes, or BAD_INDEX when the request names nothing that exists. -/
def answerRead (m : ManagementFrame) (r : Option (List Byte)) (s : State) : State :=
  match r with
  | none => answer m .badIndex [] s
  | some bytes => answer m .ok bytes s

/-! ## Frames that are no request (R183, R184) -/

/-- A frame in hand shorter than 8 bytes (R183). -/
def execShortFrame (s : State) : Result :=
  whileRunning s fun s =>
    match s.mgt.inbox.inHand with
    | none => s
    | some m =>
      if m.data.length < 8 then
        { s with mgt := { s.mgt with inbox := s.mgt.inbox.finish, shortFrames := countUp s.mgt.shortFrames } }
      else s

/-- A code names no request of section 11.3; one with its top bit set does not (R184). -/
def unknownCode (c : Nat) : Bool := decide (c = 0) || decide (15 < c)

def execUnknownRequest (s : State) : Result := takeRequest unknownCode (fun m s => answer m .badCode [] s) s

/-! ## IDENTIFY, READ_FIELD, WRITE_FIELD -/

/-- The results of IDENTIFY (R189, section 12.3). -/
def identifyPart (s : State) (part : Nat) : Option (List Byte) :=
  match part with
  | 0 => some ([0x7E, 0x05, 3, byteOf (bankCode s.cfg.active),
      byteOf (flagOf s.mgt.defaultsInUse + 2 * flagOf s.mgt.modified)])
  | 1 => some (halfBytes s.mgt.check)
  | _ => none

def execIdentify (s : State) : Result :=
  takeRequest (· == 1) (fun m s => answerRead m (identifyPart s (requestByte m.data 2)) s) s

/-- READ_FIELD (R186). -/
def readField (m : ManagementFrame) (s : State) : State :=
  match tableOf (requestByte m.data 2) with
  | none => answer m .badTable [] s
  | some t =>
    answerRead m
      ((selectorFor t (requestByte m.data 5)).bind fun x =>
        (fieldValue s t x (requestByte m.data 3) (requestByte m.data 4)).map halfBytes) s

def execReadField (s : State) : Result := takeRequest (· == 2) readField s

/-- WRITE_FIELD. An engine request frame that a write of the queue depth (R150), or of the auto-idle delay whose expiry occurs
at the write (R121), issues is offered before the reply (model's choice: log entry 42). -/
def execWriteField (maintEn : Bool) (s : State) : Result :=
  takeRequest (· == 3)
    (sampled maintEn (unlessBusy fun m s => answer m (writeField m.data s).1 [] (writeField m.data s).2)) s

/-! ## Banks and activation -/

/-- The whole active bank is copied into the shadow bank (R71). -/
def copyBank (s : State) : State :=
  { s with cfg := s.cfg.setShadow s.cfg.activeBank, mgt := { s.mgt with modified := true } }

def execCopyBank (s : State) : Result :=
  takeRequest (· == 4) (unlessBusy fun m s => answer m .ok [] (copyBank s)) s

/-- The activation waits, and the request is in progress (R73, step 3). Its timer starts at the part time at which the
request is served (model's choice: log entry 40). The condition is tested at once; while a distance computation is in hand
the test is the one made at its end (R75; log entry 26). -/
def beginActivation (m : ManagementFrame) (s : State) : State :=
  let s := { s with
    env := { s.env with activation := some { port := m.port, sequence := byteAt m.data 1, since := s.now, breached := false } }
    mgt := { s.mgt with
      progress := some { kind := .activateBank, port := m.port, sequence := byteAt m.data 1 } } }
  if s.env.inbox.inHand.isNone then testActivation s else s

/-- ACTIVATE_BANK (R73, R74). -/
def activateBank (m : ManagementFrame) (s : State) : State :=
  if s.lim.state ≠ .normal then answer m .notAllowed [] s
  else
    match validationFailure s.cfg.shadowBank with
    | some (kind, number) => answer m .badValue [byteOf kind, byteOf number] s
    | none => beginActivation m s

def execActivateBank (s : State) : Result := takeRequest (· == 5) (unlessBusy activateBank) s

/-- CANCEL (R77). -/
def cancelActivation (m : ManagementFrame) (s : State) : State :=
  match s.env.activation with
  | none => answer m .notAllowed [] s
  | some _ => answer m .ok [] (s.endActivation .cancelled)

def execCancel (s : State) : Result := takeRequest (· == 6) cancelActivation s

/-! ## STORE and RELOAD -/

/-- STORE is accepted: the snapshot is taken, and the request is in progress (R190). -/
def acceptStore (m : ManagementFrame) (s : State) : State :=
  { s with
    sto := { s.sto with storeWaiting := some (imageOf s.cfg) }
    mgt := { s.mgt with progress := some { kind := .store, port := m.port, sequence := byteAt m.data 1 } } }

def execStore (maintEn : Bool) (s : State) : Result :=
  takeRequest (· == 7) (sampled maintEn (unlessBusy (needsMaintEn acceptStore))) s

/-- RELOAD is accepted outside HOLD: its read waits, and the request is in progress (R193). -/
def acceptReload (m : ManagementFrame) (s : State) : State :=
  if s.lim.state = .hold then answer m .notAllowed [] s
  else
    { s with
      sto := { s.sto with reloadWaiting := true }
      mgt := { s.mgt with progress := some { kind := .reload, port := m.port, sequence := byteAt m.data 1 } } }

def execReload (maintEn : Bool) (s : State) : Result :=
  takeRequest (· == 8) (sampled maintEn (unlessBusy (needsMaintEn acceptReload))) s

/-! ## SERVICE_DONE and FAULT_RELEASE -/

/-- SERVICE_DONE, its item judged (R162). -/
def serviceRequest (m : ManagementFrame) (s : State) : State :=
  let i := requestByte m.data 2
  if 32 ≤ i then answer m .badIndex [] s
  else if (s.cfg.item i).enabled = false then answer m .notAllowed [] s
  else answer m .ok [] (doService i s)

def execServiceDone (maintEn : Bool) (s : State) : Result :=
  takeRequest (· == 9) (sampled maintEn (unlessBusy (needsMaintEn serviceRequest))) s

/-- FAULT_RELEASE; its MAINT_EN test is reason 2 (R114, R184). -/
def releaseRequest (m : ManagementFrame) (s : State) : State :=
  match releaseRefusal s with
  | some reason => answer m .notAllowed [byteOf reason] s
  | none => answer m .ok [] (releaseHold s)

def execFaultRelease (maintEn : Bool) (s : State) : Result :=
  takeRequest (· == 10) (sampled maintEn (unlessBusy releaseRequest)) s

/-! ## Records read in parts (section 12.4) -/

/-- One part of a fault record. -/
def faultPart (f : FaultRecord) (part : Nat) : Option (List Byte) :=
  match part with
  | 0 => some [byteOf f.tag, byteOf (faultCode f.kind), byteOf (orAbsent (f.role.map roleCode)), byteOf (orAbsent f.entry),
      byteOf (limiterCode f.stateBefore)]
  | 1 => some ([byteOf f.tag] ++ wordBytes f.time.toNat)
  | 2 => some ([byteOf f.tag] ++ halfBytes (halfOfInt f.r) ++ halfBytes (halfOfInt f.h))
  | 3 => some ([byteOf f.tag] ++ halfBytes (halfOfInt f.psi) ++ [byteOf (flagOf f.valid), byteOf (closeCode f.closed)])
  | 4 => some ([byteOf f.tag] ++ halfBytes (halfOf f.repeats))
  | _ => none

/-- The tag of a record; 0 while it is none (R119). -/
def tagOf (f : Option FaultRecord) : Nat := (f.map fun f => f.tag).getD 0

/-- One part of the limiter status; a part beyond its three is BAD_INDEX (model's choice: log entry 37). -/
def limiterPartBytes (u : LimiterUnit) (part : Nat) : Option (List Byte) :=
  match part with
  | 0 => some [byteOf (limiterCode u.state), byteOf (tagOf u.openRecord), byteOf (tagOf u.secondRecord),
      byteOf u.history.length, byteOf u.lastTag]
  | 1 => some (halfBytes (halfOf u.ackEarly) ++ halfBytes (halfOf u.ackMismatch))
  | 2 => some (halfBytes (halfOf u.faultInHold))
  | _ => none

/-- The record a selector names; 0 is the newest history entry (R119). -/
def selectedRecord (u : LimiterUnit) (selector : Nat) : Option FaultRecord :=
  if selector < 16 then u.history.reverse[selector]?
  else if selector = 16 then u.openRecord
  else if selector = 17 then u.secondRecord
  else none

/-- The results of READ_FAULT (R119). -/
def faultResult (u : LimiterUnit) (selector part : Nat) : Option (List Byte) :=
  if selector = 18 then limiterPartBytes u part else (selectedRecord u selector).bind fun f => faultPart f part

def execReadFault (s : State) : Result :=
  takeRequest (· == 11)
    (fun m s => answerRead m (faultResult s.lim (requestByte m.data 2) (requestByte m.data 3)) s) s

/-- One part of a service history entry. -/
def servicePart (x : ServiceEntry) (part : Nat) : Option (List Byte) :=
  match part with
  | 0 => some ([byteOf x.item] ++ halfBytes (halfOf x.code))
  | 1 => some (wordBytes x.accumulator ++ [byteOf x.item])
  | 2 => some (wordBytes x.engineTime ++ [byteOf x.item])
  | 3 => some (wordBytes x.time.toNat ++ [byteOf x.item])
  | _ => none

/-- The results of READ_SERVICE_HISTORY: place 0 is the newest entry (R163). -/
def historyResult (h : List ServiceEntry) (place part : Nat) : Option (List Byte) :=
  (h.reverse[place]?).bind fun x => servicePart x part

def execReadServiceHistory (s : State) : Result :=
  takeRequest (· == 12)
    (fun m s => answerRead m (historyResult s.svc.history (requestByte m.data 2) (requestByte m.data 3)) s) s

/-! ## Statistics -/

/-- The eight counters in the order of R23. -/
def statsList (x : Stats) : List Nat :=
  [x.rxOverflow, x.malformed, x.checkErr, x.repeats, x.seqGap, x.coalesced, x.txDrop, x.busOff]

def portOf (n : Nat) : Option Port :=
  match n with
  | 0 => some .a
  | 1 => some .b
  | _ => none

/-- The results of READ_STATS: two counters of the port named (R189, section 12.3). -/
def statsResult (s : State) (port part : Nat) : Option (List Byte) :=
  match portOf port with
  | none => none
  | some p =>
    if part < 4 then
      let c := statsList (s.ports.get p).stats
      some (halfBytes (halfOf (c.getD (2 * part) 0)) ++ halfBytes (halfOf (c.getD (2 * part + 1) 0)))
    else none

def execReadStats (s : State) : Result :=
  takeRequest (· == 13)
    (fun m s => answerRead m (statsResult s (requestByte m.data 2) (requestByte m.data 3)) s) s

/-- Every count that CLEAR_STATS sets to 0 (R189). -/
def clearStats (s : State) : State :=
  { s with
    ports := { a := { s.ports.a with stats := clearedStats }, b := { s.ports.b with stats := clearedStats } }
    fwd := { s.fwd with screening := s.fwd.screening.map fun x => { x with checkErrors := 0 } }
    sig := { s.sig with records := PerRole.tabulate fun r => { s.sig.records.get r with outOfRange := 0 } }
    shp := { s.shp with clampCount := 0 }
    lim := { s.lim with ackEarly := 0, ackMismatch := 0, faultInHold := 0 }
    eco := { s.eco with dialClamps := 0 }
    eng := { s.eng with skipped := 0, stray := 0, refused := 0, reissued := 0, linkFault := 0 }
    ntc := { s.ntc with mismatches := 0 }
    mgt := { s.mgt with shortFrames := 0 } }

def execClearStats (s : State) : Result :=
  takeRequest (· == 14) (unlessBusy fun m s => answer m .ok [] (clearStats s)) s

/-! ## SET_NOTICE_ENABLE (R180) -/

/-- SET_NOTICE_ENABLE. The notice frame of a posting that it brings about is offered before the reply (model's choice: log
entry 34). -/
def enableRequest (m : ManagementFrame) (s : State) : State :=
  let source := requestByte m.data 2
  if 44 ≤ source then answer m .badIndex [] s
  else if maskable source = false then answer m .notAllowed [] s
  else
    match flagFrom (requestByte m.data 3) with
    | none => answer m .badValue [] s
    | some on => answer m .ok [] (setEnable source on s)

def execSetNoticeEnable (s : State) : Result := takeRequest (· == 15) (unlessBusy enableRequest) s

end Sys2Proof.Machine
end

