-- ==== Sys2Proof/Machine/Startup.lean ====
section
/-! DEFINITION. The store controller, full reset, start-up and reload (chapter 11 and section 9.6): STORE (R190), checkpoints
(R167), the reload of the configuration (R193, R194), RESET, start-up (R192), loss of power (R167), and the passing of part
time. -/
namespace Sys2Proof.Machine

/-- The request in progress is answered on its own arrival port and becomes none (R185). -/
def finishProgress (code : Byte) (st : Status) (s : State) : State :=
  match s.mgt.progress with
  | none => s
  | some p => { s with mgt := { s.mgt with progress := none } }.reply p.port code p.sequence st []

/-- The store controller becomes IDLE, and a pending checkpoint starts unless a STORE waits (R166, R167). -/
def State.storeIdle (s : State) : State := { s with sto := pendingStarts { s.sto with activity := .idle } }

/-! ## STORE (R190) -/

/-- No area is being written or read, and no checkpoint is about to start. -/
def mayBegin (v : StoreUnit) : Bool := decide (v.activity = .idle) && !v.checkpointDue

/-- The write of a STORE begins: the stored check is invalidated first. -/
def beginStoreWrite (s : State) : State :=
  match s.sto.storeWaiting with
  | none => s
  | some image =>
    if mayBegin s.sto then
      { s with sto := { s.sto with activity := .writingConfig image, storeWaiting := none, configArea := none } }
    else s

def execStoreWriteStart (s : State) : Result := whileRunning s beginStoreWrite

/-- The write of a STORE completes: the area holds the image, its check is the configuration check, the modified flag
becomes no, STORE is answered OK, and a pending checkpoint starts. -/
def completeStore (s : State) : State :=
  match s.sto.activity with
  | .writingConfig image =>
    (finishProgress 7 .ok
      { s with
        sto := { s.sto with configArea := some (storedConfig image) }
        mgt := { s.mgt with check := imageCheck image, modified := false } }).storeIdle
  | _ => s

def execStoreComplete (s : State) : Result := whileRunning s completeStore

/-! ## Checkpoints (R167) -/

/-- The snapshot of the counter area (R164, R167). -/
def counterImage (s : State) : CounterImage :=
  { totals := s.svc.totals
    accumulators := s.svc.items.map fun x => x.accumulator
    services := s.svc.items.map fun x => x.services
    history := s.svc.history
    faults := s.lim.history }

/-- A checkpoint write begins: the snapshot is taken, the pending checkpoint becomes no, and the stored check is
invalidated first. -/
def beginCheckpoint (s : State) : State :=
  if s.sto.checkpointDue && decide (s.sto.activity = .idle) then
    { s with sto := { s.sto with
        activity := .writingCounters (counterImage s), checkpointDue := false, checkpointPending := false,
        counterArea := none } }
  else s

def execCheckpointStart (s : State) : Result := whileRunning s beginCheckpoint

/-- A checkpoint write completes. -/
def completeCheckpoint (s : State) : State :=
  match s.sto.activity with
  | .writingCounters image =>
    { s with sto := { s.sto with
        counterArea := some (storedCounters image), checkpointCount := countWrap s.sto.checkpointCount,
        lastCheckpoint := some s.now } }.storeIdle
  | _ => s

def execCheckpointComplete (s : State) : Result := whileRunning s completeCheckpoint

/-! ## Reload (R193, R194) -/

/-- The read of a RELOAD begins once no area is being written. -/
def beginReload (s : State) : State :=
  if s.sto.reloadWaiting && mayBegin s.sto then
    { s with sto := { s.sto with activity := .readingConfig, reloadWaiting := false } }
  else s

def execReloadReadStart (s : State) : Result := whileRunning s beginReload

/-- R194, step 1: the tables and what is reset with them; a frame that is held back keeps its old configuration (R7). -/
def replaceTables (c : StoredConfig) (s : State) : State :=
  { s with
    cfg := loadTables c.image
    mgt := { s.mgt with check := c.check, defaultsInUse := false, modified := false, heldHigh := none }
    svc := { s.svc with heldHigh := none }
    fwd := { s.fwd with screening := resetForward.screening, held := s.fwd.held.map (keptTable s.cfg.signal) }
    sig := { s.sig with windows := resetSignal.windows } }

/-- A waiting notification that causes a computation is discarded (R50). -/
def discardComputation (n : Option AcceptNote) : Option AcceptNote :=
  match n with
  | none => none
  | some n => if n.named.any isAngle then none else some n

/-- R194, step 3: the signal records are ABSENT, and the position record is invalid and handed on (R37, R50, R54). -/
def reloadSignals (s : State) : State :=
  losePosition { s with
    sig := { s.sig with records := resetSignal.records }
    pos := { s.pos with waiting := discardComputation s.pos.waiting } }

/-- The judgement of a newly loaded geometry: an invalid one is reported, and the report is taken at once (R42, R105,
R192, R194). -/
def judgeGeometry (s : State) : State :=
  if geometryValid s.cfg.geometry then s else takeReport ⟨.geometryInvalid, none, none, none, none⟩ s

/-- The image is applied as one operation, in the order of R194. -/
def applyReload (c : StoredConfig) (s : State) : State :=
  judgeGeometry (reloadService s.cfg (reloadQueue (reloadEconomy (reloadSignals (reloadLimiter (replaceTables c s))))))

/-- The outcome of the read: the image applied, or nothing (R193). -/
def reloadOutcome (s : State) : Status × State :=
  match goodConfig s.sto with
  | none => (.badValue, s)
  | some c => if s.lim.state = .hold then (.notAllowed, s) else (.ok, applyReload c s)

/-- The end of the read of a RELOAD. -/
def endReload (s : State) : State :=
  match s.sto.activity with
  | .readingConfig => (finishProgress 8 (reloadOutcome s).1 (reloadOutcome s).2).storeIdle
  | _ => s

def execReloadReadEnd (s : State) : Result := whileRunning s endReload

/-! ## RESET, power and start-up (R115, R192) -/

/-- Every block at its full reset state, PILOT_CUT asserted, for as long as RESET stays asserted. A write in progress is
abandoned: its area has been invalid since it began. A STORE whose write has not begun leaves the area as it stands
(model's choice: log entry 36). -/
def resetHeld (s : State) : State :=
  { State.afterReset s.pending s.maintEn s.pwrWarn s.sto.configArea s.sto.counterArea with
    phase := .resetHeld
    pilotCut := true
    sto := resetStore s.sto.configArea s.sto.counterArea }

def execResetAsserted (s : State) : Result := .next (resetHeld s)

/-- RESET is negated, or power comes on: the part time starts from 0 and the start-up reads begin. A PWR_WARN line that is
already asserted makes no request (R166). -/
def execFullReset (pwrWarn : Bool) (s : State) : Result :=
  .next (State.afterReset s.pending s.maintEn pwrWarn s.sto.configArea s.sto.counterArea)

/-- R192, step 1: the configuration area is applied, or the defaults are (R191). -/
def applyConfig (s : State) : State :=
  match goodConfig s.sto with
  | some c =>
    { s with cfg := loadTables c.image, mgt := { s.mgt with check := c.check, defaultsInUse := false, modified := false } }
  | none =>
    { s with cfg := defaultTables, mgt := { s.mgt with check := 0, defaultsInUse := true, modified := false } }.raise
      srcConfigInvalid 0

/-- The start-up reads end: R192, steps 1 to 4. The raises stand in the order of the text: CONFIG_INVALID, the items,
LIMP_ACTIVE, SERVICE_COUNTS_LOST, and the raise of GEOMETRY_INVALID's record (model's choice: log entry 19). -/
def completeStartUp (s : State) : State :=
  { judgeGeometry (restoreCounters (applyConfig s)) with phase := .running }.storeIdle

def execStartUpReadsComplete (s : State) : Result := .next (if s.phase = .startUp then completeStartUp s else s)

/-- The supply fails: nothing goes on, and a write in progress is abandoned with its area invalid (R167, R190). A STORE
whose write has not begun leaves the area as it stands (model's choice: log entry 36). -/
def execLossOfPower (s : State) : Result :=
  .next { s with phase := .off, sto := { s.sto with activity := .idle } }

/-! ## Part time -/

/-- Part time goes on by 1 ms while the part is powered and RESET is not asserted (R30, R192; log entry 2). -/
def tick (s : State) : State := if s.phase = .running ∨ s.phase = .startUp then { s with now := s.now + 1 } else s

end Sys2Proof.Machine
end

