-- ==== Sys2Proof/Machine/Dispatch.lean ====
section
/-! DEFINITION. The commands, each with its meaning. -/
namespace Sys2Proof.Machine

def exec (i : Instr) (s : State) : Host.Outcome State Fault Refusal :=
  match i with
  | .receiveFrame port frame => Sys2Proof.Machine.execReceiveFrame port frame s
  | .forwardFrame => Sys2Proof.Machine.execForwardFrame s
  | .deferredHandOff => Sys2Proof.Machine.execDeferredHandOff s
  | .attemptStart port => Sys2Proof.Machine.execAttemptStart port s
  | .attemptEnd port result => Sys2Proof.Machine.execAttemptEnd port result s
  | .busIdleTimeout port => Sys2Proof.Machine.execBusIdleTimeout port s
  | .signalFrame => Sys2Proof.Machine.execSignalFrame s
  | .checkErrorReport => Sys2Proof.Machine.execCheckErrorReport s
  | .timeoutExpiry role => Sys2Proof.Machine.execTimeoutExpiry role s
  | .holdExpiry role => Sys2Proof.Machine.execHoldExpiry role s
  | .positionComputation => Sys2Proof.Machine.execPositionComputation s
  | .slewRateUpdate => Sys2Proof.Machine.execSlewRateUpdate s
  | .lossNotification => Sys2Proof.Machine.execLossNotification s
  | .distanceComputation => Sys2Proof.Machine.execDistanceComputation s
  | .activationTest => Sys2Proof.Machine.execActivationTest s
  | .activationTimeout => Sys2Proof.Machine.execActivationTimeout s
  | .limiterLeftNormal => Sys2Proof.Machine.execLimiterLeftNormal s
  | .commandFrame => Sys2Proof.Machine.execCommandFrame s
  | .heldGainLowering transition => Sys2Proof.Machine.execHeldGainLowering transition s
  | .gradeHoldConsole => Sys2Proof.Machine.execGradeHoldConsole s
  | .guidanceHandOff => Sys2Proof.Machine.execGuidanceHandOff s
  | .limiterPositionTest => Sys2Proof.Machine.execLimiterPositionTest s
  | .faultReport => Sys2Proof.Machine.execFaultReport s
  | .startupTimerExpiry => Sys2Proof.Machine.execStartupTimerExpiry s
  | .faultAcknowledgement => Sys2Proof.Machine.execFaultAcknowledgement s
  | .economyCommandNotify => Sys2Proof.Machine.execEconomyCommandNotify s
  | .economyConsole => Sys2Proof.Machine.execEconomyConsole s
  | .slewRateAcceptance => Sys2Proof.Machine.execSlewRateAcceptance s
  | .engineSpeedAcceptance => Sys2Proof.Machine.execEngineSpeedAcceptance s
  | .engineSpeedLoss => Sys2Proof.Machine.execEngineSpeedLoss s
  | .autoIdleExpiry => Sys2Proof.Machine.execAutoIdleExpiry s
  | .limpChange => Sys2Proof.Machine.execLimpChange s
  | .engineReplyTaken => Sys2Proof.Machine.execEngineReplyTaken s
  | .engineRequestTimeout => Sys2Proof.Machine.execEngineRequestTimeout s
  | .oneSecondTick => Sys2Proof.Machine.execOneSecondTick s
  | .checkpointInterval => Sys2Proof.Machine.execCheckpointInterval s
  | .reminderExpiry item => Sys2Proof.Machine.execReminderExpiry item s
  | .slewTravelAdvance => Sys2Proof.Machine.execSlewTravelAdvance s
  | .hardStopsAdvance => Sys2Proof.Machine.execHardStopsAdvance s
  | .pwrWarnAsserted level => Sys2Proof.Machine.execPwrWarnAsserted level s
  | .checkpointStart => Sys2Proof.Machine.execCheckpointStart s
  | .checkpointComplete => Sys2Proof.Machine.execCheckpointComplete s
  | .noticeRaise => Sys2Proof.Machine.execNoticeRaise s
  | .noticeConsole => Sys2Proof.Machine.execNoticeConsole s
  | .shortFrame => Sys2Proof.Machine.execShortFrame s
  | .unknownRequest => Sys2Proof.Machine.execUnknownRequest s
  | .identify => Sys2Proof.Machine.execIdentify s
  | .readField => Sys2Proof.Machine.execReadField s
  | .writeField maintEn => Sys2Proof.Machine.execWriteField maintEn s
  | .copyBank => Sys2Proof.Machine.execCopyBank s
  | .activateBank => Sys2Proof.Machine.execActivateBank s
  | .cancel => Sys2Proof.Machine.execCancel s
  | .store maintEn => Sys2Proof.Machine.execStore maintEn s
  | .storeWriteStart => Sys2Proof.Machine.execStoreWriteStart s
  | .storeComplete => Sys2Proof.Machine.execStoreComplete s
  | .reload maintEn => Sys2Proof.Machine.execReload maintEn s
  | .reloadReadStart => Sys2Proof.Machine.execReloadReadStart s
  | .reloadReadEnd => Sys2Proof.Machine.execReloadReadEnd s
  | .serviceDone maintEn => Sys2Proof.Machine.execServiceDone maintEn s
  | .faultRelease maintEn => Sys2Proof.Machine.execFaultRelease maintEn s
  | .readFault => Sys2Proof.Machine.execReadFault s
  | .readServiceHistory => Sys2Proof.Machine.execReadServiceHistory s
  | .readStats => Sys2Proof.Machine.execReadStats s
  | .clearStats => Sys2Proof.Machine.execClearStats s
  | .setNoticeEnable => Sys2Proof.Machine.execSetNoticeEnable s
  | .resetAsserted => Sys2Proof.Machine.execResetAsserted s
  | .fullReset pwrWarn => Sys2Proof.Machine.execFullReset pwrWarn s
  | .startUpReadsComplete => Sys2Proof.Machine.execStartUpReadsComplete s
  | .lossOfPower => Sys2Proof.Machine.execLossOfPower s

end Sys2Proof.Machine
end

