-- ==== Sys2Proof/Safety.lean ====
section
/-! DEFINITION. What a sound state is: the relations between the fields of the state that the manual states of the whole
machine, one definition for each part, and the ranges of the tables. -/
namespace Sys2Proof.Machine

/-! ## Ports -/

/-- The statistics stop at 65535 (R23). -/
def StatsOk (x : Stats) : Prop := ∀ n ∈ statsList x, n ≤ 65535

/-- The waiting entries of a transmit queue, by origin and identifier (R17). -/
def waitingKeys (q : List TxEntry) : List (Origin × CanId) :=
  (q.filter fun e => !e.started).map fun e => (e.origin, e.ident)

/-- The bounds of a port's FIFO and queue (R1, R18), one waiting entry for an origin and identifier (R17), an attempted entry
is started and stands alone (R16), and what BUS_OFF means (R21, R22). -/
def PortOk (p : PortState) : Prop :=
  p.rx.length ≤ 32 ∧ p.tx.length ≤ 32 ∧ forwardedCount p.tx ≤ 28 ∧ (waitingKeys p.tx).Nodup ∧
    (∀ e ∈ p.tx, e.attempting = true → e.started = true) ∧ (p.tx.countP fun e => e.attempting) ≤ 1 ∧
    (p.bus = .onBus → p.tally < 256 ∧ p.idleSince = none) ∧
    (p.bus = .busOff → 256 ≤ p.tally ∧ p.tx = [] ∧ p.idleSince.isSome = true) ∧ StatsOk p.stats

def PortsOk (s : State) : Prop := PortOk s.ports.a ∧ PortOk s.ports.b

/-! ## Limiter supervisor and held gains -/

/-- Which records are open in which state (R104), and that the two tags of HOLD differ. -/
def RecordsOk (u : LimiterUnit) : Prop :=
  match u.state with
  | .startup => u.openRecord = none ∧ u.secondRecord = none ∧ u.startupSince.isSome = true
  | .normal => u.openRecord = none ∧ u.secondRecord = none ∧ u.startupSince = none
  | .restricted =>
    u.openRecord.isSome = true ∧ u.secondRecord = none ∧ u.startupSince = none ∧
      u.openRecord.map (fun f => f.tag) = some u.lastTag
  | .hold =>
    u.openRecord.isSome = true ∧ u.secondRecord.isSome = true ∧ u.startupSince = none ∧
      u.openRecord.map (fun f => f.tag) ≠ u.secondRecord.map (fun f => f.tag)

/-- The highest held gain that a limiter state allows (R82, R83, R89): full gain in NORMAL, the creep gain of the active
bank in STARTUP and RESTRICTED, nothing in HOLD. -/
def gainCeiling (s : State) : Nat :=
  match s.lim.state with
  | .normal => 1024
  | .startup => min 1024 s.cfg.activeBank.header.creep
  | .restricted => min 1024 s.cfg.activeBank.header.creep
  | .hold => 0

/-- The limiter supervisor: its records, PILOT_CUT (R115), a waiting activation only in NORMAL (R73, R77), the held gains
under their ceiling, and the target gains within 1024 (R66); until start-up has ended the supervisor is in STARTUP and the
gains are 0 (R79, R101). -/
def LimiterOk (s : State) : Prop :=
  RecordsOk s.lim ∧
    (s.phase ≠ .off → (s.pilotCut = true ↔ (s.lim.state = .hold ∨ s.phase = .resetHeld))) ∧
    (s.env.activation.isSome = true → s.lim.state = .normal) ∧
    (∀ d ∈ dirs, dirGet s.shp.heldGains d ≤ gainCeiling s) ∧
    (∀ d ∈ dirs, dirGet s.env.distance.targets d ≤ 1024) ∧
    (s.phase = .startUp → s.lim.state = .startup ∧ ∀ d ∈ dirs, dirGet s.shp.heldGains d = 0)

/-! ## Engine request queue -/

/-- The tags in the queue. -/
def queueTags (q : EngineQueue) : List Nat := q.entries.map fun e => e.tag

/-- The queue holds no more entries than its depth and no two with one tag (R139); a pending target means that it is full
(R140, R141); in FALLBACK and until start-up has ended it is empty (R146, R151); the auto-idle timer runs in RUN alone
(R131). -/
def EngineOk (s : State) : Prop :=
  (s.cfg.economy.queueDepth = 1 ∨ s.cfg.economy.queueDepth = 4) ∧
    s.eng.entries.length ≤ s.cfg.economy.queueDepth ∧ (queueTags s.eng).Nodup ∧
    (∀ t ∈ queueTags s.eng, 1 ≤ t ∧ t ≤ 255) ∧ s.eng.lastTag ≤ 255 ∧ s.eng.refusals ≤ 2 ∧
    (s.eng.pendingTarget.isSome = true → s.eng.entries.length = s.cfg.economy.queueDepth) ∧
    (s.eco.state = .fallback ∨ s.phase = .startUp → s.eng.entries = [] ∧ s.eng.pendingTarget = none) ∧
    (s.eco.timer.isSome = true → s.eco.state = .run)

/-! ## Service items -/

/-- An item's state is the one its accumulator and definition give, and its reminder timer runs exactly while it is enabled
and DUE or OVERDUE (R158, R159). -/
def ItemOk (d : ItemDef) (x : ItemState) : Prop :=
  x.condition = itemCondition d x.accumulator ∧ x.reminder.isSome = (d.enabled && reminding x.condition) ∧
    (x.reminderDue = true → x.reminder.isSome = true)

/-- Every item is as its definition and accumulator give, and the limp condition is as judged (R160). -/
def ItemsOk (s : State) : Prop :=
  s.svc.items.length = 32 ∧ (∀ i ∈ List.range 32, ItemOk (s.cfg.item i) (s.svc.item i)) ∧
    s.svc.limpHolds = (limpItem s).isSome

/-! ## Notices -/

/-- There are 44 sources, the notice in the slot is of one of them (R171), and the slot is not empty while a source is
pending and eligible (R173). -/
def NoticeOk (s : State) : Prop :=
  s.ntc.sources.length = 44 ∧ (∀ n ∈ s.ntc.slot, n.source < 44) ∧ (s.ntc.slot = none → nextSource s.ntc = none)

/-! ## Requests in progress and the nonvolatile areas -/

def writingConfig (v : StoreUnit) : Bool :=
  match v.activity with
  | .writingConfig _ => true
  | _ => false

/-- The kind of the request in progress. -/
def progressKind (s : State) : Option ProgressKind := s.mgt.progress.map fun p => p.kind

/-- The request in progress is the one that runs (R185), the store controller has one thing to do at a time (R166), and an
area that is being written has its stored check invalidated (R167, R190). -/
def RequestOk (s : State) : Prop :=
  s.phase ≠ .off →
    (progressKind s = some .activateBank ↔ s.env.activation.isSome = true) ∧
      (progressKind s = some .store ↔ (s.sto.storeWaiting.isSome = true ∨ writingConfig s.sto = true)) ∧
      (progressKind s = some .reload ↔ (s.sto.reloadWaiting = true ∨ s.sto.activity = .readingConfig)) ∧
      (s.sto.activity = .readingStartUp ↔ s.phase = .startUp) ∧
      (s.sto.checkpointDue = true → s.sto.activity = .idle) ∧
      (writingConfig s.sto = true → s.sto.storeWaiting = none) ∧
      (s.sto.activity = .readingConfig → s.sto.reloadWaiting = false) ∧
      (writingCounters s.sto = true → s.sto.counterArea = none) ∧
      (writingConfig s.sto = true → s.sto.configArea = none)

/-! ## Histories -/

/-- A fault history: at most 16 records, no two with one tag (section 6.8). -/
def FaultHistoryOk (h : List FaultRecord) : Prop := h.length ≤ 16 ∧ (h.map fun f => f.tag).Nodup

/-- A counter image holds histories and accumulators within their bounds. -/
def CounterImageOk (c : CounterImage) : Prop :=
  FaultHistoryOk c.faults ∧ c.history.length ≤ 16 ∧ ∀ n ∈ c.accumulators, n ≤ 4294967295

/-- The histories and accumulators, in the blocks, in the counter area and in a snapshot that is being written (R117, R157,
R163, R164). -/
def HistoriesOk (s : State) : Prop :=
  FaultHistoryOk s.lim.history ∧ s.svc.history.length ≤ 16 ∧ (∀ x ∈ s.svc.items, x.accumulator ≤ 4294967295) ∧
    (∀ a, s.sto.counterArea = some a → CounterImageOk a.image) ∧ (∀ c, s.sto.activity = .writingCounters c → CounterImageOk c)

/-! ## Premises of statements -/

/-- The part runs, and the management unit has a request of a given code in hand: a frame of no fewer than 8 bytes
(R183). -/
def RequestInHand (s : State) (m : ManagementFrame) (code : Nat) : Prop :=
  s.phase = .running ∧ s.mgt.inbox.inHand = some m ∧ 8 ≤ m.data.length ∧ requestCode m.data = code

/-- The block has a hand-off in hand and one that waits, so that the next is held back (R3). -/
def Full (b : Inbox α) : Prop := b.inHand.isSome = true ∧ b.waiting.isSome = true

/-- What a hand-off leaves at a block that is not full: in hand at a free block, waiting at another (R3). -/
def Handed (x : α) (b c : Inbox α) : Prop :=
  (b.inHand = none → c = { b with inHand := some x }) ∧ (b.inHand.isSome = true → c = { b with waiting := some x })

/-- Entry `k`, which reads `e`, is the first that a frame matches (R5). -/
def FirstMatch (t : List FrameEntry) (p : Port) (i : CanId) (k : Nat) (e : FrameEntry) : Prop :=
  t[k]? = some e ∧ entryMatches e p i = true ∧ ∀ j e', j < k → t[j]? = some e' → entryMatches e' p i = false

/-- The forwarding engine is free, and the next frame it takes is `f` from port `p`, with `rest` behind it (R2, R3). -/
def NextFrame (s : State) (p : Port) (f : Frame) (rest : List Frame) : Prop :=
  s.phase = .running ∧ s.fwd.held = none ∧ (s.ports.get p).rx = f :: rest ∧
    ((s.ports.get (otherPort p)).rx = [] ∨ s.fwd.lastServed = otherPort p)

/-- The record opened for a report: its kind, role and entry, the next tag, the time, the position as
it stands or as handed over, the state before, no repeat, not closed (R104). -/
def OpenedRecord (s : State) (r : FaultReport) (f : FaultRecord) : Prop :=
  let p := r.handed.getD s.pos.record
  f = { tag := if s.lim.lastTag < 255 then s.lim.lastTag + 1 else 1, kind := r.kind, role := r.role, entry := r.entry,
        time := s.now, r := p.r, h := p.h, psi := p.psi, valid := p.valid, stateBefore := s.lim.state, repeats := 0,
        closed := .none }

/-- A report matches a record (R108). -/
def Matches (r : FaultReport) (f : FaultRecord) : Prop := r.kind = f.kind ∧ r.role = f.role ∧ r.entry = f.entry

/-- The history after a record has been appended (R117): no older entry keeps its tag, and of the others the newest fifteen
stay. -/
def appended (h : List FaultRecord) (f : FaultRecord) : List FaultRecord :=
  let kept := h.filter fun g => decide (g.tag ≠ f.tag)
  kept.drop (kept.length - 15) ++ [f]

/-- The history after an update from a record (R117). -/
def noted (h : List FaultRecord) (f : FaultRecord) : List FaultRecord :=
  h.map fun g => if g.tag = f.tag then { g with repeats := f.repeats, closed := f.closed } else g

/-- The condition of the supervisor is absent (R111). -/
def ConditionAbsent (s : State) : Prop :=
  (∀ r ∈ positionRoles, (s.sig.records.get r).state = .fresh) ∧ s.pos.record.valid = true ∧ s.pos.record.clamped = false ∧
    ∀ e ∈ s.env.distance.entries, e.breached = false

/-- What an entry into RESTRICTED with the record `f` leaves (R104, R107): the record open and in the history, the held gains
at the creep gain or below, a waiting activation answered NOT_ALLOWED, and a notice raised with the tag. -/
def EnteredRestricted (s : State) (f : FaultRecord) (t : State) : Prop :=
  t = { s with lim := t.lim, shp := t.shp, ntc := t.ntc, env := t.env, mgt := t.mgt, ports := t.ports } ∧
    t.lim = { s.lim with
      state := .restricted, startupSince := none, openRecord := some f, lastTag := f.tag, history := appended s.lim.history f } ∧
    t.shp = { s.shp with heldGains := t.shp.heldGains } ∧
    (∀ d, dirGet t.shp.heldGains d = min (dirGet s.shp.heldGains d) s.cfg.activeBank.header.creep) ∧
    t.ntc = { s.ntc with
      messages := s.ntc.messages ++ [.raise (if f.kind = .envelopeBreach then 2 else 1) f.tag] } ∧
    (s.lim.state ≠ .normal ∨ s.env.activation = none → t.env = s.env ∧ t.mgt = s.mgt ∧ t.ports = s.ports) ∧
    (∀ a, s.lim.state = .normal → s.env.activation = some a →
      t.env = { s.env with activation := none, testAsked := false } ∧ t.mgt = { s.mgt with progress := none } ∧
      t.ports = s.ports.set a.port (offerTo (s.ports.get a.port) .own
        (replyFrame s.cfg.identity.reply 5 a.sequence .notAllowed [])))

/-- What an entry into HOLD with the second record `f` leaves (R104, R109). -/
def EnteredHold (s : State) (f : FaultRecord) (t : State) : Prop :=
  t = { s with lim := t.lim, pilotCut := true, shp := t.shp, ntc := t.ntc, sto := requestCheckpoint s.sto } ∧
    t.lim = { s.lim with
      state := .hold, secondRecord := some f, lastTag := f.tag, history := appended s.lim.history f } ∧
    t.shp = { s.shp with heldGains := t.shp.heldGains } ∧ (∀ d, dirGet t.shp.heldGains d = 0) ∧
    t.ntc = { s.ntc with messages := s.ntc.messages ++ [.raise 0 f.tag] }

/-- The four conditions of the auto-idle timer, on the given raw values (R131). -/
def IdleConditions (s : State) (raw : PerAxis Int) : Prop :=
  s.eco.autoIdleOn = true ∧ (∀ x, (raw.get x).natAbs ≤ s.cfg.identity.deadband) ∧
    (∃ v, s.eco.lastSlew = some v ∧ v.natAbs < s.cfg.economy.slewStill) ∧ usable s.sig.records.engineSpeed = true

/-- The auto-idle timer after a judgement in RUN (R131). -/
def JudgedTimer (s : State) (raw : PerAxis Int) (timer : Option Time) : Prop :=
  (IdleConditions s raw → timer = some (s.eco.timer.getD s.now)) ∧ (¬IdleConditions s raw → timer = none)

/-- An engine request frame with a tag and a target (section 12.2). -/
def IsEngineFrame (s : State) (tag : Nat) (g : Target) (f : Frame) : Prop :=
  f.ident = s.cfg.identity.engineRequest ∧ f.data.length = 8 ∧ byteAt f.data 0 = byteOf tag ∧
    halfAt f.data 1 = halfOf g.rpm ∧ byteAt f.data 3 = byteOf (reasonCode g.reason) ∧
    (∀ i, 4 ≤ i → i ≤ 6 → byteAt f.data i = 0) ∧ byteSum f.data = 0

/-- What a request of the economy unit leaves (R140): a new entry and a frame on port B, or the pending target. -/
def Requested (g : Target) (s t : State) : Prop :=
  (s.eng.entries.length < s.cfg.economy.queueDepth → ∃ f, IsEngineFrame s (allocateTag s.eng) g f ∧ t = { s with
    eng := { s.eng with
      entries := s.eng.entries ++ [{
        tag := allocateTag s.eng, target := g, issued := s.now, second := false, deferred := false
        expiry := s.now + BitVec.ofNat 32 s.cfg.economy.replyTimeout }]
      lastTag := allocateTag s.eng }
    eco := { s.eco with lastIssued := some g }
    ports := { s.ports with b := offerTo s.ports.b .own f } }) ∧
  (s.cfg.economy.queueDepth ≤ s.eng.entries.length → t = { s with eng := { s.eng with pendingTarget := some g } })

/-- What the computation of the target and the decision to request leave (R129, R130). -/
def Settled (engaged : Bool) (s t : State) : Prop :=
  ∀ (g : Target) (v : State), g = computeTarget s.cfg.economy s.eco → v = { s with eco := { s.eco with target := some g } } →
    (s.eco.state ≠ .fallback ∧ (s.eco.lastIssued = none ∨ ∃ l, s.eco.lastIssued = some l ∧ (g.reason ≠ l.reason ∨
        engaged = true ∨
        (s.cfg.economy.hysteresis ≤ ((g.rpm : Int) - l.rpm).natAbs ∧ 1 ≤ ((g.rpm : Int) - l.rpm).natAbs))) →
      Requested g v t) ∧
    (¬(s.eco.state ≠ .fallback ∧ (s.eco.lastIssued = none ∨ ∃ l, s.eco.lastIssued = some l ∧ (g.reason ≠ l.reason ∨
        engaged = true ∨
        (s.cfg.economy.hysteresis ≤ ((g.rpm : Int) - l.rpm).natAbs ∧ 1 ≤ ((g.rpm : Int) - l.rpm).natAbs)))) →
      t = v)

/-- The entry's expiry instant has been reached: it lies less than half the range of part time back (R144; log entry 7). -/
def Due (s : State) (e : EngineEntry) : Prop := (s.now - e.expiry).toNat < 2147483648

/-- What the look at the pending target leaves (R141). -/
def PendingLooked (s t : State) : Prop :=
  (s.eng.pendingTarget = none ∨ s.cfg.economy.queueDepth ≤ s.eng.entries.length → t = s) ∧
    (∀ g, s.eng.pendingTarget = some g → s.eng.entries.length < s.cfg.economy.queueDepth →
      (s.eco.lastIssued = some g → t = { s with eng := { s.eng with pendingTarget := none } }) ∧
      (s.eco.lastIssued ≠ some g → Requested g { s with eng := { s.eng with pendingTarget := none } } t))

/-- What follows once entries have left the queue: the entries that become the oldest with their expiry instant reached
time out within the same event, and then the pending target is looked at (R144, R145, R146, R141). The entries `gone` were
first attempts that stood before a younger one, and are removed as SKIPPED; `e` is the oldest that stays, is reissued in
its place, or is the link fault. -/
def EntriesLeft (s t : State) : Prop :=
  (s.eng.entries = [] → PendingLooked s t) ∧
  ∀ (gone young : List EngineEntry) (e : EngineEntry) (u : State), s.eng.entries = gone ++ e :: young →
    (∀ x ∈ gone, Due s x ∧ x.second = false) →
    u = { s with eng := { s.eng with
      entries := e :: young
      skipped := (if gone = [] then s.eng.skipped else min (s.eng.skipped + gone.length) 65535) } } →
    (¬Due s e → PendingLooked u t) ∧
    (Due s e → e.second = false → young = [] → ∃ f, IsEngineFrame u (allocateTag u.eng) e.target f ∧ PendingLooked { u with
      eng := { u.eng with
        entries := [{ e with
          tag := allocateTag u.eng, second := true, deferred := false, issued := s.now
          expiry := s.now + BitVec.ofNat 32 s.cfg.economy.replyTimeout }]
        lastTag := allocateTag u.eng
        reissued := min (s.eng.reissued + 1) 65535 }
      eco := { s.eco with lastIssued := some e.target }
      ports := { s.ports with b := offerTo s.ports.b .own f } } t) ∧
    (Due s e → e.second = true → t = { u with
      eng := { u.eng with
        entries := [], pendingTarget := none, linkFault := min (s.eng.linkFault + 1) 65535, refusals := 0 }
      eco := { s.eco with state := .fallback, timer := none }
      ntc := { s.ntc with messages := s.ntc.messages ++ [.raise 4 e.target.rpm] } })

/-- What a judgement of the limp condition tells, by the item that it finds and by whether the condition held (R160). -/
def limpNews (found : Option Nat) (held : Bool) : List LimpChange :=
  match found, held with
  | some i, false => [.engage i]
  | none, true => [.disengage]
  | _, _ => []

/-- What the judgement of the limp condition at the end of an event has told (R160). -/
def LimpTold (s t : State) : Prop :=
  t.svc.limpHolds = (limpItem t).isSome ∧
    t.eco = { s.eco with limpChanges := s.eco.limpChanges ++ limpNews (limpItem t) s.svc.limpHolds }

/-- The raises of the enabled items whose state in `t` is worse than the one they had, in order of item number (R158). -/
def itemRaises (before : Nat → ItemCondition) (t : State) : List NoticeMessage :=
  ((List.range 32).filter fun i => (t.cfg.item i).enabled &&
    decide (conditionCode (before i) < conditionCode (t.svc.item i).condition)).map
    fun i => .raise (12 + i) (conditionCode (t.svc.item i).condition)

/-- What the judgement of every item at a restore or a reload leaves (R168, R170): the state that accumulator and definition
give; the reminder timer of an enabled item that is DUE or OVERDUE kept when the item counts as having been so before, and
started from 0 otherwise; every other timer stopped. -/
def ItemsJudged (before : Nat → ItemCondition) (s t : State) : Prop :=
  ∀ i, i < 32 →
    (t.svc.item i).condition = itemCondition (t.cfg.item i) (t.svc.item i).accumulator ∧
    ((t.cfg.item i).enabled = true ∧ 2 ≤ conditionCode (t.svc.item i).condition →
      (2 ≤ conditionCode (before i) → (t.svc.item i).reminder = (s.svc.item i).reminder ∧
        (t.svc.item i).reminderDue = (s.svc.item i).reminderDue) ∧
      (conditionCode (before i) < 2 → (t.svc.item i).reminder = some 0 ∧ (t.svc.item i).reminderDue = false)) ∧
    ((t.cfg.item i).enabled = false ∨ conditionCode (t.svc.item i).condition < 2 →
      (t.svc.item i).reminder = none ∧ (t.svc.item i).reminderDue = false)

/-- What the advance of the totals by `steps` leaves (R157 to R160): the reminder timer of an item that becomes DUE or
OVERDUE starts from 0, and every other timer stays. -/
def Advanced (steps : Totals) (s t : State) : Prop :=
  t = { s with svc := t.svc, ntc := t.ntc, eco := t.eco } ∧
    t.svc = { s.svc with totals := t.svc.totals, items := t.svc.items, limpHolds := t.svc.limpHolds } ∧
    (∀ b, t.svc.totals.get b = min (s.svc.totals.get b + steps.get b) 4294967295) ∧ t.svc.items.length = 32 ∧
    (∀ i, i < 32 →
      (t.svc.item i).accumulator = (if (s.cfg.item i).enabled then
        min ((s.svc.item i).accumulator + steps.get (s.cfg.item i).basis) 4294967295 else (s.svc.item i).accumulator) ∧
      (t.svc.item i).services = (s.svc.item i).services ∧
      (t.svc.item i).condition = itemCondition (s.cfg.item i) (t.svc.item i).accumulator ∧
      (2 ≤ conditionCode (t.svc.item i).condition ∧
          conditionCode (s.svc.item i).condition < conditionCode (t.svc.item i).condition →
        (t.svc.item i).reminder = some 0 ∧ (t.svc.item i).reminderDue = false) ∧
      (conditionCode (t.svc.item i).condition < 2 ∨
          conditionCode (t.svc.item i).condition ≤ conditionCode (s.svc.item i).condition →
        (t.svc.item i).reminder = (s.svc.item i).reminder ∧
          (t.svc.item i).reminderDue = (s.svc.item i).reminderDue)) ∧
    t.ntc = { s.ntc with messages := s.ntc.messages ++ itemRaises (fun i => (s.svc.item i).condition) t } ∧
    LimpTold s t

/-- The condition for a waiting activation, in its three parts (R75): the position record valid; every target gain 1024; and
every entry of the shadow bank that would be applicable with every D at 0 or above. -/
def MaySwap (s : State) : Prop :=
  s.pos.record.valid = true ∧ (∀ d, dirGet s.env.distance.targets d = 1024) ∧
    ∀ i a, i < 16 →
      approach (envelopeInputs s) s.pos.record s.cfg.shadowBank.header (s.cfg.shadowBank.entryAt i) = some a →
      0 ≤ a.distance ∧ ∀ x ∈ a.restricts, 0 ≤ x.2

/-- A test of the waiting activation `a` swaps the banks: its condition holds, and no breach has been found since its request
(R75, R76, R78). -/
def Completes (a : Activation) (s : State) : Prop := a.breached = false ∧ MaySwap s

/-- The gain `g` that entry `i` of a bank gives an axis-direction: the gain of its own profile for the distance that it finds
for the axis-direction, clamped, and none when it is not applicable or does not restrict it (R59, R65, R66). -/
def GainOf (x : EnvelopeInputs) (p : PositionRecord) (b : Bank) (y : Dir) (i : Nat) (g : Option Nat) : Prop :=
  (∀ a d, approach x p b.header (b.entryAt i) = some a → (y, d) ∈ a.restricts →
    g = some (profileGain (b.profileAt (b.entryAt i).profile) (max (-32768) (min 32767 d)))) ∧
  ((∀ a d, approach x p b.header (b.entryAt i) = some a → (y, d) ∉ a.restricts) → g = none)

/-- The least of the gains that 16 entries give, at most 1024, and the lowest-numbered entry that gives it, none at 1024
(R66). -/
def LeastGain (gain : Nat → Option Nat) (target : Nat) (most : Option Nat) : Prop :=
  target ≤ 1024 ∧ (∀ i g, i < 16 → gain i = some g → target ≤ g) ∧ (most = none ↔ target = 1024) ∧
    ∀ i, most = some i → i < 16 ∧ gain i = some target ∧ ∀ j g, j < i → gain j = some g → target < g

/-- The breach reports of a distance record, lowest entry first (R68). -/
def BreachReports (d : DistanceRecord) : List LimiterEvent :=
  ((List.range 16).filter fun i => (d.entries.getD i ⟨false, 0, false⟩).breached).map
    fun i => .report ⟨.envelopeBreach, none, some i, none, none⟩

/-- What a swap for the activation `a` leaves (R76): the banks swapped, the activation ended and answered OK, BANK_ACTIVATED
raised, and a distance computation on the new active bank in place of a hand-off that waits, whose events for the limiter
supervisor follow (log entry 9). -/
def BanksSwapped (a : Activation) (s t : State) : Prop :=
  ∃ d, d = distanceOn (s.cfg.bank (otherBank s.cfg.active)) (envelopeInputs s) s.pos.record s.env.distance.count ∧
    t = { s with
      cfg := { s.cfg with active := otherBank s.cfg.active }
      env := { s.env with
        distance := d, activation := none, testAsked := false, inbox := { s.env.inbox with waiting := none } }
      mgt := { s.mgt with progress := none, modified := true }
      ntc := { s.ntc with messages := s.ntc.messages ++ [.raise 10 (bankCode (otherBank s.cfg.active))] }
      ports := s.ports.set a.port (offerTo (s.ports.get a.port) .own
        (replyFrame s.cfg.identity.reply 5 a.sequence .ok []))
      lim := { s.lim with events := s.lim.events ++ BreachReports d ++
        (match s.env.inbox.waiting with | none => [] | some w => w.forLimiter) } }

/-- A source is pending and eligible (R173). -/
def Ready (v : NoticeUnit) (k : Nat) : Prop :=
  k < 44 ∧ (v.source k).pending = true ∧ (k < 4 ∨ ((v.source k).enabled = true ∧ v.mute = false))

/-- The lowest-numbered source that is pending and eligible. -/
def FirstReady (v : NoticeUnit) (k : Nat) : Prop := Ready v k ∧ ∀ j, j < k → ¬Ready v j

/-- A notice frame of the slot as it stands in `t`, with the counter before it was advanced (R175, section 12.2). -/
def IsNoticeFrame (t : State) (fresh : Bool) (counter : Nat) (f : Frame) : Prop :=
  f.ident = t.cfg.identity.notice ∧ f.data.length = 8 ∧ byteSum f.data = 0 ∧ byteAt f.data 6 = byteOf (counter % 16) ∧
    (t.ntc.slot = none → byteAt f.data 0 = 255 ∧ byteAt f.data 1 = byteOf (2 * flagOf fresh) ∧ halfAt f.data 2 = 0 ∧
      halfAt f.data 4 = 0) ∧
    (∀ n, t.ntc.slot = some n → byteAt f.data 0 = byteOf n.source ∧
      byteAt f.data 1 = byteOf ((if n.source < 4 then 1 else 0) + 2 * flagOf fresh) ∧
      halfAt f.data 2 = halfOf n.argument ∧
      halfAt f.data 4 = (if 12 ≤ n.source ∧ n.source < 44 then halfOf (t.cfg.item (n.source - 12)).code else 0))

/-- A notice frame has been sent on port A, and the counter advanced (R175). -/
def NoticeSent (fresh : Bool) (s t : State) : Prop :=
  ∃ f, IsNoticeFrame s fresh s.ntc.counter f ∧ t = { s with
    ntc := { s.ntc with counter := (s.ntc.counter + 1) % 16 }
    ports := { s.ports with a := offerTo s.ports.a .own f } }

/-- Source `k` has been posted (R173). -/
def Posted (k : Nat) (s t : State) : Prop :=
  NoticeSent true { s with ntc := { s.ntc with
    sources := s.ntc.sources.set k { s.ntc.source k with pending := false, enabled := false }
    slot := some ⟨k, (s.ntc.source k).argument⟩ } } t

/-- The posting check has been made on an empty slot (R173). -/
def PostingChecked (s t : State) : Prop :=
  (∀ k, FirstReady s.ntc k → Posted k s t) ∧ ((∀ k, ¬Ready s.ntc k) → t = s)

/-! ## WRITE_FIELD -/

/-- A record has passed to LOST, and the blocks concerned are told (R36). -/
def NowLost (r : Role) (s t : State) : Prop :=
  ∃ u, u = { s with sig := { s.sig with records := s.sig.records.set r { s.sig.records.get r with state := .lost } } } ∧
    (isPosition r = true → t = { u with
      pos := s.pos.notifyLoss ⟨r, s.now⟩
      lim := { s.lim with events := s.lim.events ++ [.report ⟨.positionLost, some r, none, none, some s.now⟩] } }) ∧
    (r = .engineSpeed → t = { u with eco := { s.eco with speedLosses := s.eco.speedLosses ++ [s.now] } }) ∧
    (isPosition r = false → r ≠ .engineSpeed → t = u)

/-- After an accepted write of the timeout or the hold time of a role, the expiries whose new instants have passed occur at
the write (R33). -/
def ExpiriesReplaced (r : Role) (s t : State) : Prop :=
  ∀ (age timeout hold : Nat), timeout = (s.cfg.signal.get r).timeout → hold = (s.cfg.signal.get r).hold →
    ((s.sig.records.get r).accepted = none → t = s) ∧
    (∀ t0, (s.sig.records.get r).accepted = some t0 → age = (s.now - t0).toNat →
      ((s.sig.records.get r).state = .fresh → timeout ≤ age → 0 < hold → age < timeout + hold → t = { s with
        sig := { s.sig with records := s.sig.records.set r { s.sig.records.get r with state := .holding } } }) ∧
      ((s.sig.records.get r).state = .fresh ∨ (s.sig.records.get r).state = .holding → timeout + hold ≤ age →
        NowLost r s t) ∧
      ((s.sig.records.get r).state = .fresh → age < timeout → t = s) ∧
      ((s.sig.records.get r).state = .holding → age < timeout + hold → t = s) ∧
      ((s.sig.records.get r).state = .absent ∨ (s.sig.records.get r).state = .lost → t = s))

/-- After an accepted write to item `i` the item is judged, as one that had been OK when it was disabled before, and then
the limp condition (R158, R160, R161). -/
def ItemJudged (i : Nat) (wasEnabled : Bool) (s t : State) : Prop :=
  ∃ x before, before = (if wasEnabled then (s.svc.item i).condition else .ok) ∧
    t = { s with svc := t.svc, ntc := t.ntc, eco := t.eco } ∧
    t.svc = { s.svc with items := s.svc.items.set i x, limpHolds := t.svc.limpHolds } ∧
    x = { s.svc.item i with
      condition := itemCondition (s.cfg.item i) (s.svc.item i).accumulator
      reminder := x.reminder
      reminderDue := x.reminderDue } ∧
    ((s.cfg.item i).enabled = true ∧ 2 ≤ conditionCode x.condition →
      (2 ≤ conditionCode before ∧ conditionCode x.condition ≤ conditionCode before →
        x.reminder = (s.svc.item i).reminder ∧ x.reminderDue = (s.svc.item i).reminderDue) ∧
      (conditionCode before < 2 ∨ conditionCode before < conditionCode x.condition →
        x.reminder = some 0 ∧ x.reminderDue = false)) ∧
    ((s.cfg.item i).enabled = false ∨ conditionCode x.condition < 2 → x.reminder = none ∧ x.reminderDue = false) ∧
    t.ntc = { s.ntc with
      messages := s.ntc.messages ++
        (if (s.cfg.item i).enabled = true ∧ conditionCode before < conditionCode x.condition then
          [.raise (12 + i) (conditionCode x.condition)] else []) } ∧
    LimpTold s t

/-- A write of the queue depth: the oldest entries beyond it leave as SKIPPED, and the pending target is looked at
(R150). -/
def DepthWritten (s t : State) : Prop :=
  (s.eng.entries.length ≤ s.cfg.economy.queueDepth → PendingLooked s t) ∧
  (s.cfg.economy.queueDepth < s.eng.entries.length → EntriesLeft { s with
    eng := { s.eng with
      entries := s.eng.entries.drop (s.eng.entries.length - s.cfg.economy.queueDepth)
      skipped := min (s.eng.skipped + (s.eng.entries.length - s.cfg.economy.queueDepth)) 65535 } } t)

/-- A write of the auto-idle delay: an expiry whose new instant has passed occurs at the write (R121, R132). -/
def DelayWritten (s t : State) : Prop :=
  (∀ t0, s.eco.state = .run → s.eco.timer = some t0 →
    (1000 * s.cfg.economy.autoIdleDelay ≤ (s.now - t0).toNat →
      Settled false { s with eco := { s.eco with state := .autoIdle, timer := none } } t) ∧
    ((s.now - t0).toNat < 1000 * s.cfg.economy.autoIdleDelay → t = s)) ∧
  (s.eco.state ≠ .run ∨ s.eco.timer = none → t = s)

/-- What follows an accepted write, `s` being the state with the field written (R12, R33, R40, R121, R150, R158, R161). -/
def WriteFollowed (x : Table) (index field : Nat) (old : Tables) (s t : State) : Prop :=
  (x = .frame → t = { s with
    fwd := { s.fwd with screening := s.fwd.screening.set index ⟨none, 0⟩ }
    sig := { s.sig with windows := s.sig.windows.set index [] } }) ∧
  (∀ r, x = .signal → roleOf index = some r → 8 ≤ field → ExpiriesReplaced r s t) ∧
  (x = .economy → field = 3 → DelayWritten s t) ∧
  (x = .economy → field = 31 → DepthWritten s t) ∧
  (x = .service → 1 ≤ index → ItemJudged (index - 1) (old.item (index - 1)).enabled s t) ∧
  (x ≠ .frame → ¬(x = .signal ∧ 8 ≤ field) → ¬(x = .economy ∧ (field = 3 ∨ field = 31)) → ¬(x = .service ∧ 1 ≤ index) →
    t = s)

/-- The high half that a write of a field finds held: that of the same table, index and field, and 0 without one (R161,
R187). -/
def HeldFor (s : State) (t : Table) (index field : Nat) (half : Half) : Prop :=
  (t = .service →
    (∀ x, s.svc.heldHigh = some x → x.item + 1 = index → x.field + 1 = field → half = x.value) ∧
    ((∀ x, s.svc.heldHigh = some x → ¬(x.item + 1 = index ∧ x.field + 1 = field)) → half = 0)) ∧
  (t ≠ .service →
    (∀ x, s.mgt.heldHigh = some x → x.table = tableCode t → x.index = index → x.field + 1 = field → half = x.value) ∧
    ((∀ x, s.mgt.heldHigh = some x → ¬(x.table = tableCode t ∧ x.index = index ∧ x.field + 1 = field)) → half = 0))

/-- Fields whose range alone decides a write: the table, whether the index is 0 alone, the fields, whether the value is read
as signed, and the range (sections 1.2.3, 2.2, 3.1, 3.2, 4.1, 7.2, 9.2 and 9.4, R188). -/
structure PlainRange where
  table : Table
  record : Bool
  first : Nat
  last : Nat
  signed : Bool
  low : Int
  high : Int
  deriving DecidableEq, Repr

/-- The plain ranges of the tables; the index and field are taken to exist. -/
def plainRanges : List PlainRange :=
  [⟨.frame, false, 0, 0, false, 0, 1⟩, ⟨.frame, false, 5, 5, false, 0, 2⟩, ⟨.frame, false, 6, 6, false, 0, 5⟩,
    ⟨.frame, false, 7, 7, false, 0, 1⟩, ⟨.frame, false, 16, 16, false, 0, 8⟩, ⟨.geometry, true, 0, 2, false, 500, 20000⟩,
    ⟨.geometry, true, 3, 3, true, -5000, 5000⟩, ⟨.geometry, true, 4, 4, false, 0, 10000⟩,
    ⟨.sine, false, 0, 0, false, 0, 32767⟩, ⟨.envelope, false, 0, 0, false, 0, 1⟩, ⟨.envelope, false, 1, 1, false, 0, 3⟩,
    ⟨.envelope, false, 2, 3, false, 0, 35999⟩, ⟨.envelope, false, 4, 4, true, -32768, 32767⟩,
    ⟨.envelope, false, 5, 5, true, -500, 500⟩, ⟨.envelope, false, 6, 6, false, 0, 32767⟩,
    ⟨.envelope, false, 7, 7, false, 0, 5000⟩, ⟨.envelope, false, 8, 8, false, 0, 7⟩,
    ⟨.envelope, false, 9, 9, false, 0, 4095⟩] ++
  [⟨.profile, false, 17, 32, false, 0, 1024⟩, ⟨.header, true, 0, 0, false, 100, 5000⟩, ⟨.header, true, 1, 1, false, 1, 1024⟩,
    ⟨.header, true, 2, 2, false, 0, 1024⟩, ⟨.header, true, 3, 4, false, 0, 2000⟩, ⟨.economy, true, 3, 3, false, 1, 60⟩,
    ⟨.economy, true, 4, 4, false, 0, 500⟩, ⟨.economy, true, 5, 5, false, 0, 200⟩, ⟨.economy, true, 6, 11, false, 0, 100⟩,
    ⟨.economy, true, 21, 28, false, 600, 2200⟩, ⟨.economy, true, 29, 29, false, 50, 2000⟩,
    ⟨.economy, true, 30, 30, false, 500, 20000⟩, ⟨.service, true, 0, 0, false, 200, 800⟩,
    ⟨.service, true, 1, 4, false, 0, 400⟩, ⟨.service, true, 5, 5, false, 10000, 60000⟩,
    ⟨.service, true, 6, 6, false, 60, 36000⟩] ++
  [⟨.service, false, 0, 0, false, 0, 1⟩, ⟨.service, false, 1, 1, false, 0, 65535⟩, ⟨.service, false, 9, 9, false, 0, 1⟩,
    ⟨.signal, false, 0, 0, false, 0, 1⟩, ⟨.signal, false, 1, 1, false, 0, 63⟩,
    ⟨.signal, false, 2, 2, false, 0, 6⟩, ⟨.signal, false, 3, 4, false, 0, 1⟩, ⟨.signal, false, 5, 5, true, -32768, 32767⟩,
    ⟨.signal, false, 8, 8, false, 10, 2000⟩, ⟨.signal, false, 9, 9, false, 0, 2000⟩,
    ⟨.identity, true, 10, 10, false, 0, 1⟩, ⟨.identity, true, 11, 11, false, 0, 200⟩,
    ⟨.identity, true, 12, 12, false, 50, 1000⟩, ⟨.identity, true, 13, 13, false, 0, 500⟩]

/-- The writes that a rule joining several fields decides: `n` is the value written, `v` the same as 16 bits, `wide` the value
of a wide field with its high half (R8, R24, R70, R121, R122, R161, R187, R188). -/
def RuledWrite (c : Tables) (t : Table) (index field wide n : Nat) (v : Half) (accepted : Prop) : Prop :=
  (∀ e, t = .frame → c.frameEntry index = e →
    (field = 2 ∨ field = 4 → (accepted ↔ wide < 536870912)) ∧
    (field = 8 → (accepted ↔ n = 255 ∨
      (n ≤ 7 ∧ e.checkPos ≠ some n ∧ ∀ a o, e.offsets.get a = some o → n ≠ o ∧ n ≠ o + 1))) ∧
    (field = 9 → (accepted ↔ n = 255 ∨
      (n ≤ 7 ∧ e.counterPos ≠ some n ∧ ∀ a o, e.offsets.get a = some o → n ≠ o ∧ n ≠ o + 1))) ∧
    (∀ a, 10 ≤ field → axisOf (field - 10) = some a → (accepted ↔ n = 255 ∨
      (n ≤ 6 ∧ (∀ p, e.counterPos = some p ∨ e.checkPos = some p → p ≠ n ∧ p ≠ n + 1) ∧
        ∀ b o, b ≠ a → e.offsets.get b = some o → o + 1 < n ∨ n + 1 < o)))) ∧
  (∀ r e, t = .signal → roleOf index = some r → c.signal.get r = e →
    (field = 6 → (accepted ↔ roleMin r ≤ limitFrom r v ∧ limitFrom r v ≤ e.validMax)) ∧
    (field = 7 → (accepted ↔ e.validMin ≤ limitFrom r v ∧ limitFrom r v ≤ roleMax r))) ∧
  (∀ p, t = .profile → index < 8 → c.shadowBank.profileAt index = p →
    (field = 0 → (accepted ↔ n ≤ 16 ∧ (p.thresholds.take n).Pairwise fun x y => y < x)) ∧
    (∀ k, k < 16 → field = k + 1 → (accepted ↔ p.count ≤ k ∨
      ((k = 0 ∨ v.toInt < p.thresholds.getD (k - 1) 0) ∧ (p.count ≤ k + 1 ∨ p.thresholds.getD (k + 1) 0 < v.toInt))))) ∧
  (∀ e, t = .economy → c.economy = e →
    (field = 0 → (accepted ↔ 600 ≤ n ∧ n ≤ 1200 ∧ n ≤ e.limp)) ∧
    (field = 1 → (accepted ↔ 1400 ≤ n ∧ n ≤ 2200 ∧ e.limp ≤ n)) ∧
    (field = 2 → (accepted ↔ e.idle ≤ n ∧ n ≤ e.max)) ∧
    (field = 12 → (accepted ↔ 2 ≤ n ∧ n ≤ 8 ∧ (e.demands.take n).Pairwise fun x y => x < y)) ∧
    (∀ k, k < 8 → field = k + 13 → (accepted ↔ n ≤ 1000 ∧ (e.pointCount ≤ k ∨
      ((k = 0 ∨ e.demands.getD (k - 1) 0 < n) ∧ (e.pointCount ≤ k + 1 ∨ n < e.demands.getD (k + 1) 0))))) ∧
    (field = 31 → (accepted ↔ n = 1 ∨ n = 4))) ∧
  (∀ i, t = .service → index = i + 1 →
    (field = 2 → (accepted ↔ n ≤ 4)) ∧
    (field = 4 → (accepted ↔ 1 ≤ wide ∧ wide ≤ 2147483648 ∧ (c.item i).warnAhead < wide)) ∧
    (field = 6 → (accepted ↔ wide < (c.item i).interval)) ∧ (field = 8 → (accepted ↔ wide ≤ 2147483648))) ∧
  (t = .identity →
    (field = 1 → (accepted ↔ wide < 536870912 ∧ wide ≠ c.identity.reply.toNat ∧ wide ≠ c.identity.guidance.toNat ∧
      wide ≠ c.identity.notice.toNat ∧ wide ≠ c.identity.engineRequest.toNat)) ∧
    (field = 3 ∨ field = 5 ∨ field = 7 ∨ field = 9 →
      (accepted ↔ wide < 536870912 ∧ wide ≠ c.identity.request.toNat)))

/-! ## Ranges of the tables -/

/-- A frame table entry within its ranges (section 1.2.3). -/
def FrameEntryOk (e : FrameEntry) : Prop :=
  (∀ n ∈ e.counterPos, n ≤ 7) ∧ (∀ n ∈ e.checkPos, n ≤ 7) ∧ (∀ a ∈ axes, ∀ n ∈ e.offsets.get a, n ≤ 6) ∧ e.minLength ≤ 8

/-- A signal table entry within its ranges (section 2.2). -/
def SignalEntryOk (r : Role) (e : SignalEntry) : Prop :=
  e.entry ≤ 63 ∧ e.offset ≤ 6 ∧ -32768 ≤ e.calibration ∧ e.calibration ≤ 32767 ∧ roleMin r ≤ e.validMin ∧
    e.validMin ≤ e.validMax ∧ e.validMax ≤ roleMax r ∧ 10 ≤ e.timeout ∧ e.timeout ≤ 2000 ∧ e.hold ≤ 2000

/-- An envelope entry within its ranges (section 4.1). -/
def EnvelopeEntryOk (e : EnvelopeEntry) : Prop :=
  e.sectorFrom ≤ 35999 ∧ e.sectorTo ≤ 35999 ∧ -32768 ≤ e.limit ∧ e.limit ≤ 32767 ∧ -500 ≤ e.slope ∧ e.slope ≤ 500 ∧
    0 ≤ e.refRadius ∧ e.refRadius ≤ 32767 ∧ 0 ≤ e.margin ∧ e.margin ≤ 5000 ∧ e.profile ≤ 7

/-- A bank header within its ranges (section 4.1). -/
def HeaderOk (h : BankHeader) : Prop :=
  100 ≤ h.decel ∧ h.decel ≤ 5000 ∧ 1 ≤ h.rise ∧ h.rise ≤ 1024 ∧ h.creep ≤ 1024 ∧ 0 ≤ h.linearTol ∧ h.linearTol ≤ 2000 ∧
    0 ≤ h.angularTol ∧ h.angularTol ≤ 2000

/-- A profile within its ranges (section 4.1). -/
def ProfileOk (p : Profile) : Prop :=
  p.count ≤ 16 ∧ p.thresholds.length = 16 ∧ p.gains.length = 16 ∧ (∀ t ∈ p.thresholds, -32768 ≤ t ∧ t ≤ 32767) ∧
    ∀ g ∈ p.gains, g ≤ 1024

def BankOk (b : Bank) : Prop :=
  HeaderOk b.header ∧ b.entries.length = 16 ∧ b.profiles.length = 8 ∧ (∀ e ∈ b.entries, EnvelopeEntryOk e) ∧
    ∀ p ∈ b.profiles, ProfileOk p

/-- The economy settings within their ranges, the limp speed between idle and max, and the demands of the points in use
ascending (section 7.2, R121, R122). -/
def EconomyOk (e : EconomySettings) : Prop :=
  600 ≤ e.idle ∧ e.idle ≤ 1200 ∧ 1400 ≤ e.max ∧ e.max ≤ 2200 ∧ e.idle ≤ e.limp ∧ e.limp ≤ e.max ∧ 1 ≤ e.autoIdleDelay ∧
    e.autoIdleDelay ≤ 60 ∧ e.slewStill ≤ 500 ∧ e.hysteresis ≤ 200 ∧ (∀ a ∈ axes, e.weights.get a ≤ 100) ∧
    2 ≤ e.pointCount ∧ e.pointCount ≤ 8 ∧ e.demands.length = 8 ∧ e.speeds.length = 8 ∧ (∀ d ∈ e.demands, d ≤ 1000) ∧
    (∀ v ∈ e.speeds, 600 ≤ v ∧ v ≤ 2200) ∧ 50 ≤ e.replyTimeout ∧ e.replyTimeout ≤ 2000 ∧ 500 ≤ e.deferralLimit ∧
    e.deferralLimit ≤ 20000 ∧ (e.queueDepth = 1 ∨ e.queueDepth = 4) ∧ ascending e = true

/-- The service settings within their ranges (section 9.2). -/
def ServiceOk (v : ServiceSettings) : Prop :=
  200 ≤ v.running ∧ v.running ≤ 800 ∧ v.weight1 ≤ 400 ∧ v.weight2 ≤ 400 ∧ v.weight3 ≤ 400 ∧ v.weight4 ≤ 400 ∧
    10000 ≤ v.highPressure ∧ v.highPressure ≤ 60000 ∧ 60 ≤ v.reminder ∧ v.reminder ≤ 36000

/-- A service item's definition within its ranges (section 9.4). -/
def ItemDefOk (d : ItemDef) : Prop :=
  d.code ≤ 65535 ∧ 1 ≤ d.interval ∧ d.interval ≤ 2147483648 ∧ d.warnAhead < d.interval ∧ d.grace ≤ 2147483648

/-- The identity record within its ranges, its request identifier apart from the other four (R188). -/
def IdentityOk (d : Identity) : Prop :=
  d.deadband ≤ 200 ∧ 50 ≤ d.guidancePeriod ∧ d.guidancePeriod ≤ 1000 ∧ d.gradeBand ≤ 500 ∧ requestCollides d = false

/-- The fields of the geometry record are 16-bit values; they may lie outside their ranges (R42). -/
def GeometryOk (g : Geometry) : Prop :=
  0 ≤ g.boom ∧ g.boom ≤ 65535 ∧ 0 ≤ g.arm ∧ g.arm ≤ 65535 ∧ 0 ≤ g.bucket ∧ g.bucket ≤ 65535 ∧ -32768 ≤ g.r0 ∧
    g.r0 ≤ 32767 ∧ 0 ≤ g.h0 ∧ g.h0 ≤ 65535

/-- Every table in force is within its ranges (R182, R191). -/
def TablesOk (t : Tables) : Prop :=
  t.frame.length = 64 ∧ (∀ e ∈ t.frame, FrameEntryOk e) ∧ (∀ r ∈ roles, SignalEntryOk r (t.signal.get r)) ∧
    GeometryOk t.geometry ∧ t.sine.length = 91 ∧ (∀ n ∈ t.sine, n ≤ 32767) ∧ BankOk t.bank0 ∧ BankOk t.bank1 ∧
    EconomyOk t.economy ∧ ServiceOk t.service ∧ t.items.length = 32 ∧ (∀ d ∈ t.items, ItemDefOk d) ∧ IdentityOk t.identity

/-! ## The forwarding engine's hand-offs -/

/-- What a hand-off held back leaves when it is made, and that it stays while a block concerned is full (R3, R4, R10, R14,
R15); `s` has it held back, and it is made at the present part time. -/
def HeldHandOffMade (h : HandOff) (s : State) : Prop :=
  let u : State := { s with fwd := { s.fwd with held := none } }
  (∀ p d, h = .management p d →
    (Full s.mgt.inbox → exec .deferredHandOff s = .next s) ∧
    ∀ ib, ¬Full s.mgt.inbox → Handed ⟨p, d⟩ s.mgt.inbox ib →
      exec .deferredHandOff s = .next { u with mgt := { s.mgt with inbox := ib } }) ∧
  (∀ table k f onward, h = .signal table k f onward →
    (Full s.sig.inbox → exec .deferredHandOff s = .next s) ∧
    ∀ ib ports, ¬Full s.sig.inbox → Handed (.frame (table.getD s.cfg.signal) k f.data s.now) s.sig.inbox ib →
      (onward = none → ports = s.ports) →
      (∀ q, onward = some q → ports = s.ports.set q (offerTo (s.ports.get q) .forwarded f)) →
      exec .deferredHandOff s = .next { u with sig := { s.sig with inbox := ib }, ports := ports }) ∧
  (∀ k, h = .checkError k →
    (Full s.sig.inbox → exec .deferredHandOff s = .next s) ∧
    ∀ ib, ¬Full s.sig.inbox → Handed (.checkError k s.now) s.sig.inbox ib →
      exec .deferredHandOff s = .next { u with sig := { s.sig with inbox := ib } }) ∧
  (∀ p f o c, h = .command p f o c →
    (Full s.shp.inbox → exec .deferredHandOff s = .next s) ∧
    ∀ ib, ¬Full s.shp.inbox → Handed (.command p f o c) s.shp.inbox ib →
      exec .deferredHandOff s = .next { u with shp := { s.shp with inbox := ib } }) ∧
  (∀ d, h = .console d →
    (Full s.eco.inbox ∨ Full s.shp.inbox ∨ Full s.ntc.inbox ∨ Full s.lim.inbox → exec .deferredHandOff s = .next s) ∧
    ∀ i1 i2 i3 i4, ¬(Full s.eco.inbox ∨ Full s.shp.inbox ∨ Full s.ntc.inbox ∨ Full s.lim.inbox) →
      Handed d s.eco.inbox i1 → Handed (.console d) s.shp.inbox i2 → Handed d s.ntc.inbox i3 → Handed d s.lim.inbox i4 →
      exec .deferredHandOff s = .next { u with
        eco := { s.eco with inbox := i1 }, shp := { s.shp with inbox := i2 }, ntc := { s.ntc with inbox := i3 }
        lim := { s.lim with inbox := i4 } }) ∧
  (∀ d, h = .engineReply d →
    (Full s.eng.inbox → exec .deferredHandOff s = .next s) ∧
    ∀ ib, ¬Full s.eng.inbox → Handed d s.eng.inbox ib →
      exec .deferredHandOff s = .next { u with eng := { s.eng with inbox := ib } })

/-! ## READ_FIELD -/

/-- The fields of a table and index from number `first` on read as the values listed, in their order. -/
def FieldsAre (s : State) (t : Table) (x : Selector) (index first : Nat) (values : List Half) : Prop :=
  ∀ k v, values[k]? = some v → fieldValue s t x index (first + k) = some v

/-- A value wider than 16 bits as a high and a low field (R196). -/
def wideRead (n : Nat) : List Half := [halfOf (n / 65536), halfOf n]

/-- A time that may be absent, as a high and a low field; 0 while absent (R38, R56, R165, R196). -/
def timeRead (t : Option Time) : List Half := wideRead (t.elim 0 fun x => x.toNat)

/-- The fields of the FRAME and SIGNAL tables that can be read (section 12.5, R38; an absent last accepted counter: log
entry 17). -/
def SignalPathFieldsRead (s : State) : Prop :=
  (∀ i e x, i < 64 → s.cfg.frameEntry i = e →
    FieldsAre s .frame x i 0 ([halfOf (flagOf e.enabled)] ++ wideRead e.matchIdent.toNat ++ wideRead e.mask.toNat ++
      [halfOf (arrivalCode e.arrival), halfOf (actionCode e.action), halfOf (flagOf e.consume), halfOf (e.counterPos.getD 255),
        halfOf (e.checkPos.getD 255)] ++ axes.map (fun a => halfOf ((e.offsets.get a).getD 255)) ++
      [halfOf e.minLength, halfOf ((s.fwd.screening.getD i ⟨none, 0⟩).lastCounter.getD 0),
        halfOf (s.fwd.screening.getD i ⟨none, 0⟩).checkErrors])) ∧
  (∀ r e w x, s.cfg.signal.get r = e → s.sig.records.get r = w →
    FieldsAre s .signal x (roleCode r) 0 ([halfOf (flagOf e.enabled), halfOf e.entry, halfOf e.offset,
      halfOf (flagOf e.lowFirst), halfOf (flagOf e.signed), BitVec.ofInt 16 e.calibration, BitVec.ofInt 16 e.validMin,
      BitVec.ofInt 16 e.validMax, halfOf e.timeout, halfOf e.hold, BitVec.ofInt 16 w.value,
      halfOf (signalStateCode w.state)] ++ timeRead w.accepted ++ [halfOf w.outOfRange]))

/-- The fields of the GEOMETRY, SINE, ENVELOPE, PROFILE and HEADER tables that can be read; `b` is the bank that the selector
names (section 12.5, R56, R72). -/
def LimitFieldsRead (s : State) : Prop :=
  (∀ x g p, s.cfg.geometry = g → s.pos.record = p →
    FieldsAre s .geometry x 0 0 ([BitVec.ofInt 16 g.boom, BitVec.ofInt 16 g.arm, BitVec.ofInt 16 g.bucket,
      BitVec.ofInt 16 g.r0, BitVec.ofInt 16 g.h0, halfOf (flagOf (geometryValid g)), BitVec.ofInt 16 p.r, BitVec.ofInt 16 p.h,
      BitVec.ofInt 16 p.psi, BitVec.ofInt 16 p.omega, halfOf (flagOf p.valid), halfOf (flagOf p.clamped)] ++
      timeRead p.computedAt ++ [halfOf p.count])) ∧
  (∀ x k, k < 91 → FieldsAre s .sine x k 0 [halfOf (s.cfg.sine.getD k 0)]) ∧
  (∀ x b, (x = .active → b = s.cfg.bank s.cfg.active) → (x = .shadow → b = s.cfg.bank (otherBank s.cfg.active)) →
    (∀ i e y, i < 16 → b.entryAt i = e → s.env.distance.entries.getD i ⟨false, 0, false⟩ = y →
      FieldsAre s .envelope x i 0 [halfOf (flagOf e.enabled), halfOf (kindCode e.kind), halfOf e.sectorFrom,
        halfOf e.sectorTo, BitVec.ofInt 16 e.limit, BitVec.ofInt 16 e.slope, BitVec.ofInt 16 e.refRadius,
        BitVec.ofInt 16 e.margin, halfOf e.profile,
        halfOf (dirs.map fun d => if dirGet e.moves d = true then 2 ^ dirCode d else 0).sum,
        (if e.enabled = true ∧ (b.profileAt e.profile).count = 0 then 1 else 0)] ∧
      (x = .active → FieldsAre s .envelope x i 11
        [halfOf (flagOf y.applicable), BitVec.ofInt 16 y.distance, halfOf (flagOf y.breached)]) ∧
      (x = .shadow → FieldsAre s .envelope x i 11 [0, 0, 0])) ∧
    (∀ i p, i < 8 → b.profileAt i = p → ProfileOk p → FieldsAre s .profile x i 0
      ([halfOf p.count] ++ p.thresholds.map (fun n => BitVec.ofInt 16 n) ++ p.gains.map halfOf)) ∧
    FieldsAre s .header x 0 0 ([BitVec.ofInt 16 b.header.decel, halfOf b.header.rise, halfOf b.header.creep,
      BitVec.ofInt 16 b.header.linearTol, BitVec.ofInt 16 b.header.angularTol, halfOf (bankCode s.cfg.active),
      halfOf (flagOf s.env.activation.isSome)] ++ dirs.map (fun d => halfOf (dirGet s.env.distance.targets d)) ++
      dirs.map (fun d => halfOf ((dirGet s.env.distance.restrictive d).getD 255)) ++ [halfOf s.env.distance.count]))

/-- A target and its reason as two fields; none reads 0 (R138, R152). -/
def targetRead (g : Option Target) : List Half := g.elim [0, 0] fun g => [halfOf g.rpm, halfOf (reasonCode g.reason)]

/-- The fields of the ECONOMY table that can be read (section 12.5, R138, R152); an entry beyond the count reads 0. -/
def EconomyFieldsRead (s : State) : Prop :=
  (∀ x e u, s.cfg.economy = e → s.eco = u → e.demands.length = 8 → e.speeds.length = 8 →
    FieldsAre s .economy x 0 0 ([halfOf e.idle, halfOf e.max, halfOf e.limp, halfOf e.autoIdleDelay, halfOf e.slewStill,
      halfOf e.hysteresis] ++ axes.map (fun a => halfOf (e.weights.get a)) ++ [halfOf e.pointCount] ++ e.demands.map halfOf ++
      e.speeds.map halfOf ++ [halfOf e.replyTimeout, halfOf e.deferralLimit, halfOf e.queueDepth, halfOf (u.dial.getD 0),
        halfOf (modeCode u.mode), halfOf (flagOf u.autoIdleOn), halfOf u.dialClamps, halfOf (economyCode u.state),
        halfOf (flagOf u.timer.isSome), halfOf (u.timer.elim 0 fun t => (s.now - t).toNat),
        BitVec.ofInt 16 (u.lastSlew.getD (-32768)), halfOf u.demand, halfOf (flagOf u.limp)] ++
      targetRead u.target ++ targetRead u.lastIssued)) ∧
  (∀ x q, s.eng = q →
    FieldsAre s .economy x 1 0 [halfOf q.entries.length] ∧
    (∀ k, k < 4 →
      (∀ e, q.entries[k]? = some e → FieldsAre s .economy x 1 (1 + 7 * k) ([halfOf e.tag, halfOf e.target.rpm,
        halfOf (reasonCode e.target.reason)] ++ wideRead e.issued.toNat ++
        [if e.second then 2 else 1, halfOf (flagOf e.deferred)])) ∧
      (q.entries.length ≤ k → FieldsAre s .economy x 1 (1 + 7 * k) [0, 0, 0, 0, 0, 0, 0])) ∧
    FieldsAre s .economy x 1 29 (targetRead q.pendingTarget ++ [halfOf q.lastTag, halfOf q.refusals] ++
      q.lastReply.elim [0, 0, 0, 0, 0] (fun r => [halfOf r.tag, halfOf r.status, halfOf r.rpm] ++ wideRead r.time.toNat) ++
      [halfOf q.skipped, halfOf q.stray, halfOf q.refused, halfOf q.reissued, halfOf q.linkFault]))

/-- The fields of the SERVICE table that can be read (section 12.5, R165); a reminder timer that is stopped reads 65535. -/
def ServiceFieldsRead (s : State) : Prop :=
  (∀ x v w writing, s.cfg.service = v → s.sto = w → (writing = true ↔ ∃ c, w.activity = .writingCounters c) →
    FieldsAre s .service x 0 0 ([BitVec.ofInt 16 v.running, halfOf v.weight1, halfOf v.weight2, halfOf v.weight3,
      halfOf v.weight4, BitVec.ofInt 16 v.highPressure, halfOf v.reminder] ++ wideRead s.svc.totals.engineTime ++
      wideRead s.svc.totals.weightedTime ++ wideRead s.svc.totals.highPressTime ++ wideRead s.svc.totals.slewTravel ++
      wideRead s.svc.totals.hardStops ++
      [halfOf (flagOf writing), halfOf (flagOf w.checkpointPending), halfOf w.checkpointCount] ++
      timeRead w.lastCheckpoint)) ∧
  (∀ x i d y, i < 32 → s.cfg.item i = d → s.svc.item i = y →
    FieldsAre s .service x (i + 1) 0 ([halfOf (flagOf d.enabled), halfOf d.code, halfOf (basisCode d.basis)] ++
      wideRead d.interval ++ wideRead d.warnAhead ++ wideRead d.grace ++ [halfOf (flagOf d.limp)] ++ wideRead y.accumulator ++
      [halfOf y.services, halfOf (conditionCode y.condition), halfOf (y.reminder.getD 65535)]))

/-- The fields of the IDENTITY table that can be read (section 12.5, R100, R181); an empty slot reads 255 and argument 0. -/
def IdentityFieldsRead (s : State) : Prop :=
  (∀ x d, s.cfg.identity = d →
    FieldsAre s .identity x 0 0 (wideRead d.request.toNat ++ wideRead d.reply.toNat ++ wideRead d.guidance.toNat ++
      wideRead d.notice.toNat ++ wideRead d.engineRequest.toNat ++ [halfOf (defaultActionCode d.defaultAction),
        halfOf d.deadband, halfOf d.guidancePeriod, halfOf d.gradeBand, halfOf s.mgt.shortFrames])) ∧
  (∀ x v, s.shp = v →
    FieldsAre s .identity x 1 0 (dirs.map (fun d => halfOf (dirGet v.heldGains d)) ++
      axes.map (fun a => BitVec.ofInt 16 (v.lastRaw.get a)) ++ axes.map (fun a => BitVec.ofInt 16 (v.lastShaped.get a)) ++
      dirs.map (fun d => halfOf (flagOf (dirGet v.hardStops d))) ++ [halfOf v.clampCount, halfOf (flagOf v.gradeHold),
        halfOf (flagOf v.inBand), halfOf (v.activeGrade.getD 255), BitVec.ofInt 16 (v.tipToGrade.getD (-32768)),
        halfOf v.guidanceCounter])) ∧
  (∀ x v, s.ntc = v → v.sources.length = 44 →
    FieldsAre s .identity x 2 0 (v.sources.map (fun y => halfOf (flagOf y.pending)) ++
      v.sources.map (fun y => halfOf (flagOf y.enabled)) ++ v.sources.map (fun y => halfOf y.argument) ++
      [halfOf (flagOf v.mute), halfOf (v.slot.elim 255 fun n => n.source), halfOf (v.slot.elim 0 fun n => n.argument),
        halfOf v.counter, halfOf v.mismatches]))

/-- The indices of a table with the same fields: how many can be written, which come first, and how many there are. -/
structure FieldCount where
  table : Table
  first : Nat
  last : Nat
  writable : Nat
  total : Nat
  deriving DecidableEq, Repr

/-- The indices and the numbers of fields of section 12.5. -/
def fieldCounts : List FieldCount :=
  [⟨.frame, 0, 63, 17, 19⟩, ⟨.signal, 0, 8, 10, 15⟩, ⟨.geometry, 0, 0, 5, 15⟩, ⟨.sine, 0, 90, 1, 1⟩,
    ⟨.envelope, 0, 15, 10, 14⟩, ⟨.profile, 0, 7, 33, 33⟩, ⟨.header, 0, 0, 5, 32⟩, ⟨.economy, 0, 0, 32, 46⟩,
    ⟨.economy, 1, 1, 0, 43⟩, ⟨.service, 0, 0, 7, 22⟩, ⟨.service, 1, 32, 10, 15⟩, ⟨.identity, 0, 0, 14, 15⟩,
    ⟨.identity, 1, 1, 0, 42⟩, ⟨.identity, 2, 2, 0, 137⟩]

/-- A field is read exactly when the list holds its index and number, and one behind those that can be written is read-only
(R186, R187). -/
def FieldsAreCounted (s : State) : Prop :=
  ∀ (t : Table) (x : Selector) (index field : Nat),
    (∀ c ∈ fieldCounts, c.table = t → c.first ≤ index → index ≤ c.last →
      ((fieldValue s t x index field).isSome = true ↔ field < c.total) ∧
      (readOnly s t x index field = true ↔ c.writable ≤ field)) ∧
    ((∀ c ∈ fieldCounts, c.table = t → index < c.first ∨ c.last < index) → fieldValue s t x index field = none)

/-- Everything that READ_FIELD can return, by table, index and field (section 12.5). -/
def FieldsReadAsTheyStand (s : State) : Prop :=
  SignalPathFieldsRead s ∧ LimitFieldsRead s ∧ EconomyFieldsRead s ∧ ServiceFieldsRead s ∧ IdentityFieldsRead s ∧
    (TablesOk s.cfg → s.ntc.sources.length = 44 → FieldsAreCounted s)

/-- The codes of section 12.1 and the statuses of section 12.3, each list in the order of its codes. -/
def CodesAreThoseOfChapter12 : Prop :=
  [Port.a, .b].map portCode = [0, 1] ∧ [ArrivalPort.a, .b, .any].map arrivalCode = [0, 1, 2] ∧
  [Action.pass, .drop, .signal, .command, .console, .engineReply].map actionCode = [0, 1, 2, 3, 4, 5] ∧
  [Role.boomAngle, .armAngle, .bucketAngle, .slewAngle, .slewRate, .engineSpeed, .engineLoad, .pumpPress1,
    .pumpPress2].map roleCode = [0, 1, 2, 3, 4, 5, 6, 7, 8] ∧
  [SignalState.absent, .fresh, .holding, .lost].map signalStateCode = [0, 1, 2, 3] ∧
  [Axis.boom, .arm, .bucket, .slew, .travelL, .travelR].map axisCode = [0, 1, 2, 3, 4, 5] ∧
  (∀ d : Dir, dirCode d = 2 * axisCode d.axis + flagOf d.negative) ∧
  [EnvelopeKind.slewArc, .ceiling, .floor, .reach].map kindCode = [0, 1, 2, 3] ∧
  [BankNo.bank0, .bank1].map bankCode = [0, 1] ∧
  [LimiterState.startup, .normal, .restricted, .hold].map limiterCode = [0, 1, 2, 3] ∧
  [FaultKind.positionLost, .positionClamp, .envelopeBreach, .geometryInvalid].map faultCode = [1, 2, 3, 4] ∧
  [CloseReason.none, .acked, .released, .reloaded].map closeCode = [0, 1, 2, 3] ∧
  [EconomyState.run, .autoIdle, .fallback].map economyCode = [0, 1, 2] ∧ [PowerMode.eco, .full].map modeCode = [0, 1] ∧
  [Reason.dial, .eco, .idle, .limp, .fallback].map reasonCode = [1, 2, 3, 4, 5] ∧
  [Basis.engineTime, .weightedTime, .highPressTime, .slewTravel, .hardStops].map basisCode = [0, 1, 2, 3, 4] ∧
  [ItemCondition.ok, .dueSoon, .due, .overdue].map conditionCode = [0, 1, 2, 3] ∧
  [DefaultAction.pass, .drop].map defaultActionCode = [0, 1] ∧
  [Status.ok, .busy, .locked, .badCode, .badTable, .badIndex, .badValue, .notAllowed, .timeout, .cancelled].map statusCode =
    [0, 1, 2, 3, 4, 5, 6, 7, 8, 9] ∧
  (∀ n t, tableOf n = some t ↔ n = tableCode t) ∧
  [Table.frame, .signal, .geometry, .sine, .envelope, .profile, .header, .economy, .service, .identity].map tableCode =
    [1, 2, 3, 4, 5, 6, 7, 8, 9, 10]

/-! ## Loading and the built-in defaults -/

/-- A stored number within its range, and its built-in default otherwise (R191). -/
def keptNat (low high n default : Nat) : Nat := if low ≤ n ∧ n ≤ high then n else default

/-- A stored signed number within its range, and its built-in default otherwise (R191). -/
def keptInt (low high v default : Int) : Int := if low ≤ v ∧ v ≤ high then v else default

/-- Field `k` of a stored record, as an unsigned number. -/
def storedNat (w : List Half) (k : Nat) : Nat := (w.getD k 0).toNat

/-- Field `k` of a stored record, as a signed number. -/
def storedInt (w : List Half) (k : Nat) : Int := (w.getD k 0).toInt

/-- Fields `k` and `k + 1` of a stored record, as one value wider than 16 bits. -/
def storedWide (w : List Half) (k : Nat) : Nat := 65536 * storedNat w k + storedNat w (k + 1)

/-- A frame table entry breaks R8: its two positions are the same byte, an axis offset takes one of them in, or two axis
offsets overlap. -/
def BreaksR8 (e : FrameEntry) : Prop :=
  (∃ p, e.counterPos = some p ∧ e.checkPos = some p) ∨
  (∃ a o p, e.offsets.get a = some o ∧ (e.counterPos = some p ∨ e.checkPos = some p) ∧ (p = o ∨ p = o + 1)) ∨
  (∃ a b o q, a ≠ b ∧ e.offsets.get a = some o ∧ e.offsets.get b = some q ∧ o ≤ q + 1 ∧ q ≤ o + 1)

/-- A frame table entry as loaded: each field in its range as stored, any other at its default, and the entry disabled when
it then breaks R8 (section 1.2.3, R191; log entry 35). -/
def FrameLoaded (w : List Half) (e : FrameEntry) : Prop :=
  (e.enabled = true ↔ storedNat w 0 = 1 ∧ ¬BreaksR8 e) ∧ e.matchIdent.toNat = keptNat 0 536870911 (storedWide w 1) 0 ∧
    e.mask.toNat = keptNat 0 536870911 (storedWide w 3) 0 ∧ arrivalCode e.arrival = keptNat 0 2 (storedNat w 5) 2 ∧
    actionCode e.action = keptNat 0 5 (storedNat w 6) 0 ∧ (e.consume = true ↔ storedNat w 7 = 1) ∧
    e.counterPos = (if storedNat w 8 ≤ 7 then some (storedNat w 8) else none) ∧
    e.checkPos = (if storedNat w 9 ≤ 7 then some (storedNat w 9) else none) ∧
    (∀ a, e.offsets.get a =
      (if storedNat w (10 + axisCode a) ≤ 6 then some (storedNat w (10 + axisCode a)) else none)) ∧
    e.minLength = keptNat 0 8 (storedNat w 16) 0

/-- The range of each role (section 2.1), in the order of the roles' codes. -/
def roleRanges : List (Int × Int) :=
  [(-18000, 17999), (-18000, 17999), (-18000, 17999), (0, 35999), (-4000, 4000), (0, 5000), (0, 100), (0, 60000), (0, 60000)]

/-- A valid limit as stored: signed exactly when the role's range has negative values (log entry 17). -/
def storedLimit (low : Int) (w : List Half) (k : Nat) : Int := if low < 0 then storedInt w k else (storedNat w k : Int)

/-- A signal table entry as loaded (section 2.2, R191); a valid max below the valid min takes its default (log entry 35). -/
def SignalLoaded (r : Role) (w : List Half) (e : SignalEntry) : Prop :=
  ∀ low high limit, roleRanges[roleCode r]? = some (low, high) → limit = keptInt low high (storedLimit low w 7) high →
    e = {
      enabled := decide (storedNat w 0 = 1)
      entry := keptNat 0 63 (storedNat w 1) 0
      offset := keptNat 0 6 (storedNat w 2) 0
      lowFirst := decide (storedNat w 3 = 1)
      signed := (if storedNat w 4 ≤ 1 then decide (storedNat w 4 = 1) else decide (roleCode r ≤ 4))
      calibration := storedInt w 5
      validMin := keptInt low high (storedLimit low w 6) low
      validMax := (if limit < keptInt low high (storedLimit low w 6) low then high else limit)
      timeout := keptNat 10 2000 (storedNat w 8) ([100, 100, 100, 100, 100, 200, 500, 200, 200].getD (roleCode r) 0)
      hold := keptNat 0 2000 (storedNat w 9) 300 }

/-- An envelope entry as loaded (section 4.1, R191); a set of restricted moves with a bit above 11 takes its default. -/
def EnvelopeLoaded (w : List Half) (e : EnvelopeEntry) : Prop :=
  kindCode e.kind = keptNat 0 3 (storedNat w 1) 0 ∧
    (∀ d, dirGet e.moves d = (decide (storedNat w 9 < 4096) && (w.getD 9 0).getLsbD (dirCode d))) ∧
    e = { e with
      enabled := decide (storedNat w 0 = 1)
      sectorFrom := keptNat 0 35999 (storedNat w 2) 0
      sectorTo := keptNat 0 35999 (storedNat w 3) 0
      limit := storedInt w 4
      slope := keptInt (-500) 500 (storedInt w 5) 0
      refRadius := keptInt 0 32767 (storedNat w 6) 0
      margin := keptInt 0 5000 (storedNat w 7) 0
      profile := keptNat 0 7 (storedNat w 8) 0 }

/-- A profile as loaded (section 4.1, R191): one out of order is used as it stands (R74). -/
def ProfileLoaded (w : List Half) (p : Profile) : Prop :=
  p = {
    count := keptNat 0 16 (storedNat w 0) 0
    thresholds := (List.range 16).map fun k => storedInt w (1 + k)
    gains := (List.range 16).map fun k => keptNat 0 1024 (storedNat w (17 + k)) 0 }

/-- A bank as loaded (section 4.1, R191). -/
def BankLoaded (c : BankImage) (b : Bank) : Prop :=
  b.header = {
    decel := keptInt 100 5000 (storedNat c.header 0) 1000
    rise := keptNat 1 1024 (storedNat c.header 1) 64
    creep := keptNat 0 1024 (storedNat c.header 2) 256
    linearTol := keptInt 0 2000 (storedNat c.header 3) 200
    angularTol := keptInt 0 2000 (storedNat c.header 4) 200 } ∧
  b.entries.length = 16 ∧ (∀ i, i < 16 → EnvelopeLoaded (c.entries.getD i []) (b.entryAt i)) ∧
  b.profiles.length = 8 ∧ ∀ i, i < 8 → ProfileLoaded (c.profiles.getD i []) (b.profileAt i)

/-- The economy settings as loaded (section 7.2, R191): the limp speed is moved to the nearer end of idle to max (R121), and
a curve whose demands do not ascend is shortened to the points that lead and ascend, or replaced by the built-in one when
they are fewer than two (R122; judged on fields within their ranges: log entry 35). -/
def EconomyLoaded (w : List Half) (e : EconomySettings) : Prop :=
  ∀ (count points : Nat) (demands speeds : List Nat), count = keptNat 2 8 (storedNat w 12) 4 →
    demands = (List.range 8).map (fun k =>
      keptNat 0 1000 (storedNat w (13 + k)) ([0, 300, 700, 1000, 1000, 1000, 1000, 1000].getD k 0)) →
    speeds = (List.range 8).map (fun k =>
      keptNat 600 2200 (storedNat w (21 + k)) ([1100, 1400, 1800, 1900, 1900, 1900, 1900, 1900].getD k 0)) →
    points ≤ count → (demands.take points).Pairwise (fun x y => x < y) →
    (points < count → ¬(demands.take (points + 1)).Pairwise (fun x y => x < y)) →
    e = { e with
      idle := keptNat 600 1200 (storedNat w 0) 900
      max := keptNat 1400 2200 (storedNat w 1) 1900
      limp := max e.idle (min e.max (storedNat w 2))
      autoIdleDelay := keptNat 1 60 (storedNat w 3) 5
      slewStill := keptNat 0 500 (storedNat w 4) 50
      hysteresis := keptNat 0 200 (storedNat w 5) 25
      replyTimeout := keptNat 50 2000 (storedNat w 29) 250
      deferralLimit := keptNat 500 20000 (storedNat w 30) 5000
      queueDepth := (if storedNat w 31 = 1 then 1 else 4) } ∧
    (∀ a, e.weights.get a =
      keptNat 0 100 (storedNat w (6 + axisCode a)) ([30, 30, 20, 25, 40, 40].getD (axisCode a) 0)) ∧
    (2 ≤ points → e.pointCount = points ∧ e.demands = demands ∧ e.speeds = speeds) ∧
    (points < 2 → e.pointCount = 4 ∧ e.demands = [0, 300, 700, 1000, 1000, 1000, 1000, 1000] ∧
      e.speeds = [1100, 1400, 1800, 1900, 1900, 1900, 1900, 1900])

/-- The service settings as loaded (section 9.2, R191). -/
def ServiceLoaded (w : List Half) (v : ServiceSettings) : Prop :=
  v = {
    running := keptInt 200 800 (storedNat w 0) 400
    weight1 := keptNat 0 400 (storedNat w 1) 50
    weight2 := keptNat 0 400 (storedNat w 2) 100
    weight3 := keptNat 0 400 (storedNat w 3) 150
    weight4 := keptNat 0 400 (storedNat w 4) 200
    highPressure := keptInt 10000 60000 (storedNat w 5) 30000
    reminder := keptNat 60 36000 (storedNat w 6) 3600 }

/-- A service item's definition as loaded (section 9.4, R191); a warn-ahead not below the interval takes its default (log
entry 35). -/
def ItemLoaded (w : List Half) (d : ItemDef) : Prop :=
  basisCode d.basis = keptNat 0 4 (storedNat w 2) 0 ∧
    d = { d with
      enabled := decide (storedNat w 0 = 1)
      code := storedNat w 1
      interval := keptNat 1 2147483648 (storedWide w 3) 1
      warnAhead := (if storedWide w 5 < d.interval then storedWide w 5 else 0)
      grace := keptNat 0 2147483648 (storedWide w 7) 0
      limp := decide (storedNat w 9 = 1) }

/-- The identity record as loaded (R188, R191): a management request identifier that equals another of the five gives all
five their built-in values (judged on fields within their ranges: log entry 35). -/
def IdentityLoaded (w : List Half) (d : Identity) : Prop :=
  ∀ request reply guidance notice engine : Nat, request = keptNat 0 536870911 (storedWide w 0) 0x0D7A1000 →
    reply = keptNat 0 536870911 (storedWide w 2) 0x0D7A1001 →
    guidance = keptNat 0 536870911 (storedWide w 4) 0x0D7A2000 →
    notice = keptNat 0 536870911 (storedWide w 6) 0x0D7A2100 →
    engine = keptNat 0 536870911 (storedWide w 8) 0x0C7A3000 →
    (request ∈ [reply, guidance, notice, engine] → d = { d with
      request := 0x0D7A1000, reply := 0x0D7A1001, guidance := 0x0D7A2000, notice := 0x0D7A2100
      engineRequest := 0x0C7A3000 }) ∧
    (request ∉ [reply, guidance, notice, engine] → d.request.toNat = request ∧ d.reply.toNat = reply ∧
      d.guidance.toNat = guidance ∧ d.notice.toNat = notice ∧ d.engineRequest.toNat = engine) ∧
    defaultActionCode d.defaultAction = keptNat 0 1 (storedNat w 10) 0 ∧ d.deadband = keptNat 0 200 (storedNat w 11) 50 ∧
    d.guidancePeriod = keptNat 50 1000 (storedNat w 12) 100 ∧ d.gradeBand = keptNat 0 500 (storedNat w 13) 50

/-- The tables as loaded from an image, with every correction of R191; the geometry is kept as it stands (R42). -/
def TablesLoaded (c : ConfigImage) (t : Tables) : Prop :=
  t.frame.length = 64 ∧ (∀ i, i < 64 → FrameLoaded (c.frame.getD i []) (t.frameEntry i)) ∧
    (∀ r, SignalLoaded r (c.signal.getD (roleCode r) []) (t.signal.get r)) ∧
    t.geometry = {
      boom := storedNat c.geometry 0
      arm := storedNat c.geometry 1
      bucket := storedNat c.geometry 2
      r0 := storedInt c.geometry 3
      h0 := storedNat c.geometry 4 } ∧
    t.sine = (List.range 91).map (fun k => keptNat 0 32767 (storedNat c.sine k) (defaultTables.sine.getD k 0)) ∧
    BankLoaded c.bank0 t.bank0 ∧ BankLoaded c.bank1 t.bank1 ∧ t.active = (if c.active = 1 then .bank1 else .bank0) ∧
    EconomyLoaded c.economy t.economy ∧ ServiceLoaded c.service t.service ∧ t.items.length = 32 ∧
    (∀ i, i < 32 → ItemLoaded (c.items.getD i []) (t.item i)) ∧ IdentityLoaded c.identity t.identity

/-- The built-in defaults (R191 and the tables of sections 1.2.3, 2.1, 2.2, 4.1, 7.2, 9.2 and 9.4, R43 and R188); of the sine
table the values that R43 lists. -/
def BuiltInDefaults (t : Tables) : Prop :=
  t.frame = List.replicate 64 {
    enabled := false, matchIdent := 0, mask := 0, arrival := .any, action := .pass, consume := false, counterPos := none
    checkPos := none, offsets := ⟨none, none, none, none, none, none⟩, minLength := 0 } ∧
  (∀ r low high, roleRanges[roleCode r]? = some (low, high) → t.signal.get r = {
    enabled := false, entry := 0, offset := 0, lowFirst := false, signed := decide (roleCode r ≤ 4), calibration := 0
    validMin := low, validMax := high
    timeout := [100, 100, 100, 100, 100, 200, 500, 200, 200].getD (roleCode r) 0, hold := 300 }) ∧
  t.geometry = ⟨0, 0, 0, 0, 0⟩ ∧ geometryValid t.geometry = false ∧
  t.sine.length = 91 ∧ ([0, 10, 20, 30, 31, 45, 60, 70, 80, 89, 90].map fun k => t.sine.getD k 0) =
    [0, 5690, 11207, 16384, 16877, 23170, 28378, 30792, 32270, 32763, 32767] ∧
  t.active = .bank0 ∧
  (∀ b, t.bank b = {
    header := { decel := 1000, rise := 64, creep := 256, linearTol := 200, angularTol := 200 }
    entries := List.replicate 16 {
      enabled := false, kind := .slewArc, sectorFrom := 0, sectorTo := 0, limit := 0, slope := 0, refRadius := 0, margin := 0
      profile := 0, moves := dirTabulate fun _ => false }
    profiles := List.replicate 8 { count := 0, thresholds := List.replicate 16 0, gains := List.replicate 16 0 } }) ∧
  t.economy = {
    idle := 900, max := 1900, limp := 1300, autoIdleDelay := 5, slewStill := 50, hysteresis := 25
    weights := ⟨30, 30, 20, 25, 40, 40⟩, pointCount := 4, demands := [0, 300, 700, 1000, 1000, 1000, 1000, 1000]
    speeds := [1100, 1400, 1800, 1900, 1900, 1900, 1900, 1900], replyTimeout := 250, deferralLimit := 5000
    queueDepth := 4 } ∧
  t.service = {
    running := 400, weight1 := 50, weight2 := 100, weight3 := 150, weight4 := 200, highPressure := 30000
    reminder := 3600 } ∧
  t.items = List.replicate 32 {
    enabled := false, code := 0, basis := .engineTime, interval := 1, warnAhead := 0, grace := 0, limp := false } ∧
  t.identity = {
    request := 0x0D7A1000, reply := 0x0D7A1001, guidance := 0x0D7A2000, notice := 0x0D7A2100, engineRequest := 0x0C7A3000
    defaultAction := .pass, deadband := 50, guidancePeriod := 100, gradeBand := 50 }

end Sys2Proof.Machine
end

