-- ==== Sys2Proof/Certificates/Slice0/Obligations.lean ====
section
/-! DEFINITION. The statements for the provers: one Prop each, stated from the numbered rules of the manual. -/
section
open Sys2Proof Sys2Proof.Machine

/-! ## The step, the queue, time, reset and power -/

/-- The command at the front of the queue runs on the state with the rest of the queue. -/
def Obligations.StepRunsTheFrontCommand : Prop :=
  ∀ (c : Instr) (rest : List Instr) (s : State), s.pending = c :: rest → step s = exec c { s with pending := rest }

/-- A command neither reads nor changes the queue of waiting commands. -/
def Obligations.QueueNeitherReadNorChanged : Prop :=
  ∀ (c : Instr) (s t : State), exec c s = .next t →
    t.pending = s.pending ∧ ∀ q : List Instr, exec c { s with pending := q } = .next { t with pending := q }

/-- On an empty queue part time goes on by 1 ms while the part runs or is in its start-up reads, modulo 2^32, and nothing
else changes; without power or under RESET nothing changes, and no command but those of RESET and of the supply has an
effect (model's choices: log entries 2 and 3; R192). -/
def Obligations.NothingHappensWithoutPowerOrUnderReset : Prop :=
  (∀ s : State, s.pending = [] → s.phase = .running ∨ s.phase = .startUp → step s = .next { s with now := s.now + 1 }) ∧
  (∀ s : State, s.pending = [] → s.phase = .off ∨ s.phase = .resetHeld → step s = .next s) ∧
  (∀ (c : Instr) (s : State), s.phase = .off ∨ s.phase = .resetHeld → c ≠ .resetAsserted → (∀ w, c ≠ .fullReset w) →
    c ≠ .lossOfPower → exec c s = .next s)

/-- What full reset, a held RESET and a loss of power leave. The nonvolatile areas are kept, but for one that was being
written, whose check had been invalidated before (R192, R115, R167). That FULL_RESET begins the start-up from any phase, that a
loss of power leaves every volatile field as it stood, and that the configuration area is kept under a STORE whose write has
not begun (R190), are the model's choices (log entries 14, 15 and 36). -/
def Obligations.FullResetLeavesResetValues : Prop :=
  (∀ (w : Bool) (s : State), ∃ t, exec (.fullReset w) s = .next t ∧
    t.phase = .startUp ∧ t.now = 0 ∧ t.pilotCut = false ∧ t.pwrWarn = w ∧
    (∀ p, (t.ports.get p).rx = [] ∧ (t.ports.get p).tx = [] ∧ (t.ports.get p).bus = .onBus ∧ (t.ports.get p).tally = 0 ∧
      (t.ports.get p).idleSince = none ∧ (t.ports.get p).stats = ⟨0, 0, 0, 0, 0, 0, 0, 0⟩) ∧
    t.fwd.lastServed = .b ∧ (∀ x ∈ t.fwd.screening, x = ⟨none, 0⟩) ∧
    (∀ r, t.sig.records.get r = { value := 0, state := .absent, accepted := none, outOfRange := 0 }) ∧
    (∀ x ∈ t.sig.windows, x = []) ∧ t.pos.record.valid = false ∧ t.pos.record.count = 0 ∧ t.pos.waiting = none ∧
    (∀ d, dirGet t.env.distance.targets d = 1024 ∧ dirGet t.env.distance.restrictive d = none ∧
      dirGet t.shp.heldGains d = 0 ∧ dirGet t.shp.hardStops d = false) ∧
    t.env.activation = none ∧ t.shp.gradeHold = false ∧ t.shp.lastGuidance = none ∧ t.shp.guidanceCounter = 0 ∧
    t.lim.state = .startup ∧ t.lim.startupSince = some 0 ∧ t.lim.openRecord = none ∧ t.lim.secondRecord = none ∧
    t.eco.state = .run ∧ t.eco.dial = none ∧ t.eco.mode = .eco ∧ t.eco.timer = none ∧ t.eco.lastIssued = none ∧
    t.eng.entries = [] ∧ t.eng.pendingTarget = none ∧ t.eng.lastTag = 0 ∧ t.svc.nextSecond = 1000 ∧
    t.svc.intervalCount = 0 ∧ (∀ x ∈ t.ntc.sources, x = ⟨false, true, 0⟩) ∧ t.ntc.sources.length = 44 ∧
    t.ntc.mute = false ∧ t.ntc.slot = none ∧ t.ntc.counter = 0 ∧ t.mgt.progress = none ∧ t.mgt.shortFrames = 0 ∧
    t.sto.activity = .readingStartUp ∧ t.sto.checkpointPending = false ∧ t.sto.checkpointCount = 0 ∧
    t.sto.configArea = s.sto.configArea ∧ t.sto.counterArea = s.sto.counterArea) ∧
  (∀ s : State, ∃ t, exec .resetAsserted s = .next t ∧ t.phase = .resetHeld ∧ t.pilotCut = true ∧
    t.lim.state = .startup ∧ t.sto.activity = .idle ∧ t.sto.configArea = s.sto.configArea ∧
    t.sto.counterArea = s.sto.counterArea ∧
    ∀ w, exec (.fullReset w) t = exec (.fullReset w) s) ∧
  (∀ s : State, exec .lossOfPower s = .next { s with phase := .off, sto := { s.sto with activity := .idle } })

/-- The state after reset meets every invariant of the model; that its tables are the built-in defaults, and its counts 0, until
the start-up reads have ended is the model's choice (log entry 44). -/
def Obligations.InvariantsHoldAtReset : Prop :=
  PortsOk State.reset ∧ LimiterOk State.reset ∧ EngineOk State.reset ∧ ItemsOk State.reset ∧ NoticeOk State.reset ∧
    RequestOk State.reset ∧ HistoriesOk State.reset ∧ TablesOk State.reset.cfg

/-! ## Ports -/

/-- A storable frame enters the FIFO at its tail or is counted RX_OVERFLOW; any frame on the segment of a BUS_OFF port
restarts its idle timer; nothing else changes (R1, R22). During the start-up reads a frame is neither received nor counted
(R192), and the idle timer of a BUS_OFF port is the one thing that it restarts. -/
def Obligations.ReceivedFrameIsStoredOrCounted : Prop :=
  (∀ (p : Port) (f : BusFrame) (s : State), s.phase = .startUp →
    ((s.ports.get p).bus = .onBus → exec (.receiveFrame p f) s = .next s) ∧
    ((s.ports.get p).bus = .busOff → exec (.receiveFrame p f) s = .next { s with
      ports := s.ports.set p { s.ports.get p with idleSince := some s.now } })) ∧
  ∀ (p : Port) (f : BusFrame) (s : State), s.phase = .running →
    ∃ t, exec (.receiveFrame p f) s = .next t ∧ t = { s with ports := t.ports } ∧
      t.ports.get (otherPort p) = s.ports.get (otherPort p) ∧
      (f.checkGood = true ∧ f.extended = true ∧ f.remote = false ∧ f.data.length ≤ 8 →
        ((s.ports.get p).rx.length < 32 →
          (t.ports.get p).rx = (s.ports.get p).rx ++ [⟨f.ident, f.data⟩] ∧ (t.ports.get p).stats = (s.ports.get p).stats) ∧
        (32 ≤ (s.ports.get p).rx.length → (t.ports.get p).rx = (s.ports.get p).rx ∧
          (t.ports.get p).stats = { (s.ports.get p).stats with rxOverflow := min ((s.ports.get p).stats.rxOverflow + 1) 65535 })) ∧
      (¬(f.checkGood = true ∧ f.extended = true ∧ f.remote = false ∧ f.data.length ≤ 8) →
        (t.ports.get p).rx = (s.ports.get p).rx ∧ (t.ports.get p).stats = (s.ports.get p).stats) ∧
      (t.ports.get p).tx = (s.ports.get p).tx ∧ (t.ports.get p).bus = (s.ports.get p).bus ∧
      (t.ports.get p).tally = (s.ports.get p).tally ∧
      ((s.ports.get p).bus = .busOff → (t.ports.get p).idleSince = some s.now) ∧
      ((s.ports.get p).bus = .onBus → (t.ports.get p).idleSince = (s.ports.get p).idleSince)

/-- A port that is ON_BUS and makes no attempt attempts the lowest identifier in its queue, the first to enter among
equals (R16); a BUS_OFF port attempts nothing, and returns to ON_BUS with tally 0 and an empty queue when its idle timer
reaches 500 ms, and not before (R22; log entry 3). -/
def Obligations.PortAttemptsTheLowestIdentifierAndRecovers : Prop :=
  (∀ (p : Port) (s : State) (l r : List TxEntry) (e : TxEntry), s.phase = .running ∨ s.phase = .startUp →
    (s.ports.get p).bus = .onBus → (s.ports.get p).tx = l ++ e :: r → (∀ x ∈ l ++ e :: r, x.attempting = false) →
    (∀ x ∈ l, e.ident.toNat < x.ident.toNat) → (∀ x ∈ r, e.ident.toNat ≤ x.ident.toNat) →
    exec (.attemptStart p) s = .next { s with
      ports := s.ports.set p { s.ports.get p with tx := l ++ { e with started := true, attempting := true } :: r } }) ∧
  (∀ (p : Port) (s : State), (s.ports.get p).bus = .busOff → exec (.attemptStart p) s = .next s) ∧
  (∀ (p : Port) (s : State) (t : Time), s.phase = .running ∨ s.phase = .startUp → (s.ports.get p).bus = .busOff →
    (s.ports.get p).idleSince = some t →
    (500 ≤ (s.now - t).toNat → exec (.busIdleTimeout p) s = .next { s with
      ports := s.ports.set p { s.ports.get p with bus := .onBus, tally := 0, tx := [], idleSince := none } }) ∧
    ((s.now - t).toNat < 500 → exec (.busIdleTimeout p) s = .next s))

/-- An attempt ends in success, loss of arbitration or failure; the failure that brings the tally to 256 or above puts the
port BUS_OFF, empties its queue and raises PORT_BUS_OFF (R16, R20, R21). -/
def Obligations.AttemptEndsByItsResult : Prop :=
  ∀ (p : Port) (s : State) (l r : List TxEntry) (e : TxEntry), s.phase = .running ∨ s.phase = .startUp →
    (s.ports.get p).tx = l ++ e :: r → e.attempting = true → (∀ x ∈ l ++ r, x.attempting = false) →
    exec (.attemptEnd p .success) s = .next { s with
      ports := s.ports.set p { s.ports.get p with tx := l ++ r, tally := (s.ports.get p).tally - 1 } } ∧
    exec (.attemptEnd p .arbitrationLost) s = .next { s with
      ports := s.ports.set p { s.ports.get p with tx := l ++ { e with attempting := false } :: r } } ∧
    ((s.ports.get p).tally + 8 < 256 → exec (.attemptEnd p .failure) s = .next { s with
      ports := s.ports.set p { s.ports.get p with
        tx := l ++ { e with attempting := false } :: r, tally := (s.ports.get p).tally + 8 } }) ∧
    (256 ≤ (s.ports.get p).tally + 8 → exec (.attemptEnd p .failure) s = .next { s with
      ports := s.ports.set p { s.ports.get p with
        tx := [], bus := .busOff, tally := (s.ports.get p).tally + 8, idleSince := some s.now,
        stats := { (s.ports.get p).stats with
          txDrop := min ((s.ports.get p).stats.txDrop + (l.length + r.length + 1)) 65535,
          busOff := min ((s.ports.get p).stats.busOff + 1) 65535 } }
      ntc := { s.ntc with messages := s.ntc.messages ++ [.raise 11 (portCode p)] } })

/-- Every step keeps both ports sound: the FIFO within 32 frames, the queue within 32 entries of which 28 are forwarded,
one waiting entry for an origin and identifier, one attempt at a time, the tally below 256 while ON_BUS, the queue empty
while BUS_OFF, the statistics within 65535. -/
def Obligations.EveryStepKeepsThePortsSound : Prop :=
  ∀ s t : State, PortsOk s → step s = .next t → PortsOk t

/-! ## Forwarding -/

/-- A management frame is handed to the management unit; a frame that no entry matches is passed on or dropped by the
default action; and a frame that its entry's tests turn away is counted once and goes nowhere (R2, R4, R6, R9, R11). A frame
matches an entry that is enabled, whose match identifier has the frame's bits wherever the mask is set, and whose arrival port
is ANY or the frame's (R5). -/
def Obligations.ForwardingEngineTurnsFramesAside : Prop :=
  (∀ (s : State) (p : Port) (f : Frame) (rest : List Frame) (s' : State), NextFrame s p f rest →
    s' = { s with ports := s.ports.set p { s.ports.get p with rx := rest }, fwd := { s.fwd with lastServed := p } } →
    (f.ident = s.cfg.identity.request →
      (s.mgt.inbox.inHand = none → exec .forwardFrame s = .next { s' with mgt := { s.mgt with
        inbox := { s.mgt.inbox with inHand := some ⟨p, f.data⟩ } } }) ∧
      (s.mgt.inbox.inHand.isSome = true → s.mgt.inbox.waiting = none → exec .forwardFrame s = .next { s' with
        mgt := { s.mgt with inbox := { s.mgt.inbox with waiting := some ⟨p, f.data⟩ } } }) ∧
      (s.mgt.inbox.inHand.isSome = true → s.mgt.inbox.waiting.isSome = true → exec .forwardFrame s = .next { s' with
        fwd := { s'.fwd with held := some (.management p f.data) } })) ∧
    (f.ident ≠ s.cfg.identity.request → (∀ e ∈ s.cfg.frame, entryMatches e p f.ident = false) →
      (s.cfg.identity.defaultAction = .pass → exec .forwardFrame s = .next (s'.offer (otherPort p) .forwarded f)) ∧
      (s.cfg.identity.defaultAction = .drop → exec .forwardFrame s = .next s')) ∧
    (∀ k e, f.ident ≠ s.cfg.identity.request → FirstMatch s.cfg.frame p f.ident k e →
      (malformed e f.data.length = true → exec .forwardFrame s = .next { s' with
        ports := s.ports.set p { s.ports.get p with
          rx := rest
          stats := { (s.ports.get p).stats with malformed := min ((s.ports.get p).stats.malformed + 1) 65535 } } }) ∧
      (∀ c, malformed e f.data.length = false → e.counterPos = some c → (e.checkPos.isSome = true → byteSum f.data = 0) →
        (s.fwd.screening.getD k ⟨none, 0⟩).lastCounter = some ((byteAt f.data c).toNat % 16) →
        exec .forwardFrame s = .next { s' with
          ports := s.ports.set p { s.ports.get p with
            rx := rest
            stats := { (s.ports.get p).stats with repeats := min ((s.ports.get p).stats.repeats + 1) 65535 } } }))) ∧
  (∀ (e : FrameEntry) (n : Nat), malformed e n = true ↔
    (n < e.minLength ∨ (∃ c, e.counterPos = some c ∧ n ≤ c) ∨ (∃ c, e.checkPos = some c ∧ n ≤ c) ∨
      (e.action = .command ∧ ∃ a o, e.offsets.get a = some o ∧ n ≤ o + 1) ∨ (e.action = .console ∧ n < 5) ∨
      (e.action = .engineReply ∧ n < 4))) ∧
  (∀ (e : FrameEntry) (p : Port) (i : CanId), entryMatches e p i = true ↔
    (e.enabled = true ∧ (∀ j, j < 29 → e.mask.getLsbD j = true → i.getLsbD j = e.matchIdent.getLsbD j) ∧
      (e.arrival = .any ∨ (e.arrival = .a ∧ p = .a) ∨ (e.arrival = .b ∧ p = .b))))

/-- A frame whose check byte fails is counted, in the port's CHECK_ERR and in its entry's check error count, and reported
to the signal unit with the part time; it goes nowhere else (R10). A free signal unit takes the report in hand; at a busy one
it waits; and at one that holds a hand-off waiting too it is held back, with no time of its own yet, until that unit takes its
waiting hand-off (R3). That the time of a report is that at which it is handed over is inferred (log entry 16). -/
def Obligations.CheckErrorIsCountedAndReported : Prop :=
  ∀ (s u : State) (p : Port) (f : Frame) (rest : List Frame) (k : Nat) (e : FrameEntry), NextFrame s p f rest →
    f.ident ≠ s.cfg.identity.request → FirstMatch s.cfg.frame p f.ident k e → malformed e f.data.length = false →
    e.checkPos.isSome = true → byteSum f.data ≠ 0 →
    u = { s with
      ports := s.ports.set p { s.ports.get p with
        rx := rest
        stats := { (s.ports.get p).stats with checkErr := min ((s.ports.get p).stats.checkErr + 1) 65535 } }
      fwd := { s.fwd with
        lastServed := p
        screening := s.fwd.screening.set k { s.fwd.screening.getD k ⟨none, 0⟩ with
          checkErrors := min ((s.fwd.screening.getD k ⟨none, 0⟩).checkErrors + 1) 65535 } } } →
    (s.sig.inbox.inHand = none → exec .forwardFrame s = .next { u with
      sig := { s.sig with inbox := { s.sig.inbox with inHand := some (.checkError k s.now) } } }) ∧
    (s.sig.inbox.inHand.isSome = true → s.sig.inbox.waiting = none → exec .forwardFrame s = .next { u with
      sig := { s.sig with inbox := { s.sig.inbox with waiting := some (.checkError k s.now) } } }) ∧
    (Full s.sig.inbox → exec .forwardFrame s = .next { u with fwd := { u.fwd with held := some (.checkError k) } })

/-- A frame that passes its tests is dealt with by its entry's action: passed, dropped, or handed on, the console frame to
four blocks; a hand-off is taken in hand, waits, or is held back when a block can take no more (R3, R13, R14, R15). A
frame passes when its length and check byte are good and its counter is not the last accepted one; any counter but the next
is a gap, and the first one after none is not (R9, R10, R11). -/
def Obligations.AcceptedFrameGoesWhereItsActionSays : Prop :=
  (∀ (s : State) (p : Port) (f : Frame) (rest : List Frame) (k : Nat) (e : FrameEntry) (last : Option Nat) (gap : Bool)
    (s1 s' : State), NextFrame s p f rest → f.ident ≠ s.cfg.identity.request → FirstMatch s.cfg.frame p f.ident k e →
    screen e (s.fwd.screening.getD k ⟨none, 0⟩).lastCounter f.data = .accepted last gap →
    s1 = { s with
      ports := s.ports.set p { s.ports.get p with rx := rest }
      fwd := { s.fwd with
        lastServed := p
        screening := s.fwd.screening.set k { s.fwd.screening.getD k ⟨none, 0⟩ with lastCounter := last } } } →
    s' = (if gap then { s1 with
        ports := s.ports.set p { s.ports.get p with
          rx := rest
          stats := { (s.ports.get p).stats with seqGap := min ((s.ports.get p).stats.seqGap + 1) 65535 } } }
      else s1) →
    (e.action = .pass → exec .forwardFrame s = .next (s'.offer (otherPort p) .forwarded f)) ∧
    (e.action = .drop → exec .forwardFrame s = .next s') ∧
    (e.action = .signal →
      (∀ ib, ¬Full s.sig.inbox → Handed (.frame s.cfg.signal k f.data s.now) s.sig.inbox ib →
        exec .forwardFrame s = .next (
          let t := { s' with sig := { s.sig with inbox := ib } }
          if e.consume then t else t.offer (otherPort p) .forwarded f)) ∧
      (Full s.sig.inbox → exec .forwardFrame s = .next { s' with fwd := { s'.fwd with
        held := some (.signal none k f (if e.consume then none else some (otherPort p))) } })) ∧
    (e.action = .command →
      (∀ ib, ¬Full s.shp.inbox → Handed (.command p f e.offsets e.checkPos) s.shp.inbox ib →
        exec .forwardFrame s = .next { s' with shp := { s.shp with inbox := ib } }) ∧
      (Full s.shp.inbox → exec .forwardFrame s = .next { s' with fwd := { s'.fwd with
        held := some (.command p f e.offsets e.checkPos) } })) ∧
    (e.action = .console →
      (∀ i1 i2 i3 i4, ¬(Full s.eco.inbox ∨ Full s.shp.inbox ∨ Full s.ntc.inbox ∨ Full s.lim.inbox) →
        Handed f.data s.eco.inbox i1 → Handed (.console f.data) s.shp.inbox i2 → Handed f.data s.ntc.inbox i3 →
        Handed f.data s.lim.inbox i4 → exec .forwardFrame s = .next { s' with
          eco := { s.eco with inbox := i1 }
          shp := { s.shp with inbox := i2 }
          ntc := { s.ntc with inbox := i3 }
          lim := { s.lim with inbox := i4 } }) ∧
      (Full s.eco.inbox ∨ Full s.shp.inbox ∨ Full s.ntc.inbox ∨ Full s.lim.inbox →
        exec .forwardFrame s = .next { s' with fwd := { s'.fwd with held := some (.console f.data) } })) ∧
    (e.action = .engineReply →
      (∀ ib, ¬Full s.eng.inbox → Handed f.data s.eng.inbox ib →
        exec .forwardFrame s = .next { s' with eng := { s.eng with inbox := ib } }) ∧
      (Full s.eng.inbox →
        exec .forwardFrame s = .next { s' with fwd := { s'.fwd with held := some (.engineReply f.data) } }))) ∧
  (∀ (e : FrameEntry) (last now : Option Nat) (d : List Byte) (gap : Bool), screen e last d = .accepted now gap ↔
    malformed e d.length = false ∧ (e.checkPos.isSome = true → byteSum d = 0) ∧
      ((e.counterPos = none ∧ now = last ∧ gap = false) ∨
        ∃ c n, e.counterPos = some c ∧ n = (byteAt d c).toNat % 16 ∧ now = some n ∧
          ((last = none ∧ gap = false) ∨ ∃ k, last = some k ∧ n ≠ k ∧ (gap = false ↔ n = (k + 1) % 16))))

/-- While a hand-off is held back no frame is taken, and it is made once the blocks concerned can take it (R3); a frame taken
from a port gives rise to at most one forwarded frame, itself, on the other port, and the transmit queue of its own port is
not touched (R13). What each kind of hand-off leaves when it is made is said of all six (R4, R10, R14, R15). An offered frame takes the data of a waiting entry of its origin and identifier, in place (R17); else a
forwarded one is added below 28 forwarded entries and 32 in all (R18), and one of the part's own below 32, or in place of
the newest waiting forwarded entry (R19); any other, and any at a BUS_OFF port, is counted TX_DROP. -/
def Obligations.HandOffsWaitAndFramesCrossOnce : Prop :=
  (∀ (s : State) (h : HandOff), s.phase = .running → s.fwd.held = some h →
    exec .forwardFrame s = .next s ∧
    (canTake s h = false → exec .deferredHandOff s = .next s) ∧
    (canTake s h = true → exec .deferredHandOff s = .next (deliver { s with fwd := { s.fwd with held := none } } h)) ∧
    (∀ d, h = .console d → (canTake s h = true ↔
      (s.eco.inbox.inHand = none ∨ s.eco.inbox.waiting = none) ∧ (s.shp.inbox.inHand = none ∨ s.shp.inbox.waiting = none) ∧
      (s.ntc.inbox.inHand = none ∨ s.ntc.inbox.waiting = none) ∧ (s.lim.inbox.inHand = none ∨ s.lim.inbox.waiting = none)))) ∧
  (∀ (s t : State) (p : Port) (f : Frame) (rest : List Frame), NextFrame s p f rest → exec .forwardFrame s = .next t →
    (t.ports.get p).tx = (s.ports.get p).tx ∧ (t.ports.get p).rx = rest ∧
      (t.ports.get (otherPort p) = s.ports.get (otherPort p) ∨
        t.ports.get (otherPort p) = offerTo (s.ports.get (otherPort p)) .forwarded f)) ∧
  (∀ (p : PortState) (o : Origin) (f : Frame) (added dropped : PortState),
    added = { p with tx := p.tx ++ [⟨o, f.ident, f.data, false, false⟩] } →
    dropped = { p with stats := { p.stats with txDrop := min (p.stats.txDrop + 1) 65535 } } →
    (p.bus = .busOff → offerTo p o f = dropped) ∧
    (p.bus = .onBus →
      (∀ l e r, p.tx = l ++ e :: r → e.origin = o → e.ident = f.ident → e.started = false →
        (∀ x ∈ l, ¬(x.origin = o ∧ x.ident = f.ident ∧ x.started = false)) → offerTo p o f = { p with
          tx := l ++ { e with data := f.data } :: r
          stats := { p.stats with coalesced := min (p.stats.coalesced + 1) 65535 } }) ∧
      ((∀ x ∈ p.tx, ¬(x.origin = o ∧ x.ident = f.ident ∧ x.started = false)) →
        (o = .forwarded →
          ((p.tx.countP fun x => decide (x.origin = .forwarded)) < 28 ∧ p.tx.length < 32 → offerTo p o f = added) ∧
          (28 ≤ (p.tx.countP fun x => decide (x.origin = .forwarded)) ∨ 32 ≤ p.tx.length → offerTo p o f = dropped)) ∧
        (o = .own →
          (p.tx.length < 32 → offerTo p o f = added) ∧
          (32 ≤ p.tx.length →
            (∀ l e r, p.tx = l ++ e :: r → e.origin = .forwarded → e.started = false →
              (∀ x ∈ r, ¬(x.origin = .forwarded ∧ x.started = false)) →
              offerTo p o f = { dropped with tx := l ++ r ++ [⟨o, f.ident, f.data, false, false⟩] }) ∧
            ((∀ x ∈ p.tx, ¬(x.origin = .forwarded ∧ x.started = false)) → offerTo p o f = dropped)))))) ∧
  (∀ (s : State) (h : HandOff), s.phase = .running → s.fwd.held = some h → HeldHandOffMade h s)

/-! ## Signals -/

/-- The signal unit judges every role of a frame: a role that is enabled and names the entry takes its value and becomes
FRESH, or is counted out of range; every other record is unchanged; the position, service and economy units are told once for
the frame, with the accepted values and, for SLEW_ANGLE to the service unit, the value accepted before (R25 to R28, R35). A
notification of accepted roles is taken in hand by a free position unit, and otherwise waits, joined with one that waits
already into one that names every role of either (R51). That a role of both keeps the value accepted last is the model's
choice (log entry 46). That the frame is judged by the signal table of its hand-off is inferred from section 2.2 (log entry 27), as is that
its part time is that of its hand-off to the signal unit (log entry 16). -/
def Obligations.SignalFrameJudgesEveryRole : Prop :=
  (∀ (s : State) (tb : PerRole SignalEntry) (k : Nat) (d : List Byte) (time : Time) (position engine : List RoleValue),
    s.phase = .running → s.sig.inbox.inHand = some (.frame tb k d time) →
    position = ([.boomAngle, .armAngle, .bucketAngle, .slewAngle, .slewRate] : List Role).filterMap
      (fun r => (taken tb k d r).map fun v => ⟨r, v⟩) →
    engine = ([.engineSpeed, .engineLoad, .pumpPress1, .pumpPress2] : List Role).filterMap
      (fun r => (taken tb k d r).map fun v => ⟨r, v⟩) →
    ∃ u, exec .signalFrame s = .next u ∧ u = { s with sig := u.sig, pos := u.pos, svc := u.svc, eco := u.eco } ∧
      u.sig = { s.sig with records := u.sig.records, inbox := ⟨s.sig.inbox.waiting, none⟩ } ∧
      (∀ r, ¬((tb.get r).enabled = true ∧ (tb.get r).entry = k) → u.sig.records.get r = s.sig.records.get r) ∧
      (∀ r v, (tb.get r).enabled = true → (tb.get r).entry = k → acceptedValue r (tb.get r) d = some v →
        u.sig.records.get r = { s.sig.records.get r with value := v, state := .fresh, accepted := some time }) ∧
      (∀ r, (tb.get r).enabled = true → (tb.get r).entry = k → acceptedValue r (tb.get r) d = none →
        u.sig.records.get r =
          { s.sig.records.get r with outOfRange := min ((s.sig.records.get r).outOfRange + 1) 65535 }) ∧
      u.pos = (if position = [] then s.pos else s.pos.notify ⟨position, time⟩) ∧
      (∀ v, taken tb k d .slewAngle = some v → u.svc = { s.svc with notes := s.svc.notes ++
        [⟨some ⟨if s.sig.records.slewAngle.state = .absent then none else some s.sig.records.slewAngle.value, v⟩,
          engine⟩] }) ∧
      (taken tb k d .slewAngle = none →
        (engine = [] → u.svc = s.svc) ∧
        (engine ≠ [] → u.svc = { s.svc with notes := s.svc.notes ++ [⟨none, engine⟩] })) ∧
      u.eco = { s.eco with
        slewRates := s.eco.slewRates ++ (taken tb k d .slewRate).toList
        speeds := s.eco.speeds ++ (taken tb k d .engineSpeed).toList }) ∧
  (∀ (u : PositionUnit) (n : AcceptNote),
    (u.inHand = none → u.notify n = { u with inHand := some (.accepted n) }) ∧
    (u.inHand.isSome = true → u.waiting = none → u.notify n = { u with waiting := some n }) ∧
    (∀ w, u.inHand.isSome = true → u.waiting = some w → ∃ values : List RoleValue,
      u.notify n = { u with waiting := some ⟨values, n.time⟩ } ∧
      (∀ r, (∃ v, ⟨r, v⟩ ∈ values) ↔ (∃ v, ⟨r, v⟩ ∈ w.values) ∨ ∃ v, ⟨r, v⟩ ∈ n.values) ∧
      ∀ r v, ⟨r, v⟩ ∈ values ↔ ⟨r, v⟩ ∈ n.values ∨ ⟨r, v⟩ ∈ w.values ∧ ∀ v', ⟨r, v'⟩ ∉ n.values)) ∧
  (∀ (tb : PerRole SignalEntry) (k : Nat) (d : List Byte) (r : Role),
    taken tb k d r = (if (tb.get r).enabled = true ∧ (tb.get r).entry = k then acceptedValue r (tb.get r) d else none))

/-- The calibrated value is the raw value plus the offset, without wrap, and is reduced modulo 36000 for SLEW_ANGLE alone;
a link angle outside its range is never accepted (R27). The raw value is read from the bytes k and k + 1 by byte order and
signedness, a frame too short for the second gives none (R26), and a value is accepted exactly in the valid window
(R28). -/
def Obligations.CalibratedValueIsNotWrapped : Prop :=
  (∀ (r : Role) (e : SignalEntry) (d : List Byte) (first second : Nat) (high low word : Nat),
    first = (byteAt d e.offset).toNat → second = (byteAt d (e.offset + 1)).toNat →
    (e.lowFirst = false → high = first ∧ low = second) → (e.lowFirst = true → high = second ∧ low = first) →
    word = 256 * high + low →
    (e.signed = false → rawValue e d = word) ∧
    (e.signed = true → rawValue e d = (if word < 32768 then (word : Int) else (word : Int) - 65536)) ∧
    (d.length ≤ e.offset + 1 → acceptedValue r e d = none) ∧
    (e.offset + 1 < d.length →
      (e.validMin ≤ calibrated r e d ∧ calibrated r e d ≤ e.validMax → acceptedValue r e d = some (calibrated r e d)) ∧
      (calibrated r e d < e.validMin ∨ e.validMax < calibrated r e d → acceptedValue r e d = none))) ∧
  ∀ (r : Role) (e : SignalEntry) (d : List Byte), SignalEntryOk r e →
    -65536 ≤ rawValue e d + e.calibration ∧ rawValue e d + e.calibration ≤ 98302 ∧
    calibrated .slewAngle e d = (rawValue e d + e.calibration) % 36000 ∧
    0 ≤ calibrated .slewAngle e d ∧ calibrated .slewAngle e d ≤ 35999 ∧
    (r ≠ .slewAngle → calibrated r e d = rawValue e d + e.calibration) ∧
    (r = .boomAngle ∨ r = .armAngle ∨ r = .bucketAngle →
      rawValue e d + e.calibration < -18000 ∨ 17999 < rawValue e d + e.calibration → acceptedValue r e d = none)

/-- A check error report is added to its entry's window, from which the times 1000 ms old or older are removed; the eighth
raises SIGNAL_DEGRADED and empties the window (R39). -/
def Obligations.EighthCheckErrorWithinASecondRaises : Prop :=
  ∀ (s : State) (k : Nat) (time : Time) (w : List Time), s.phase = .running →
    s.sig.inbox.inHand = some (.checkError k time) →
    w = (s.sig.windows.getD k []).filter (fun x => decide ((time - x).toNat < 1000)) ++ [time] →
    (w.length < 8 → exec .checkErrorReport s = .next { s with
      sig := { s.sig with windows := s.sig.windows.set k w, inbox := ⟨s.sig.inbox.waiting, none⟩ } }) ∧
    (8 ≤ w.length → exec .checkErrorReport s = .next { s with
      sig := { s.sig with windows := s.sig.windows.set k [], inbox := ⟨s.sig.inbox.waiting, none⟩ }
      ntc := { s.ntc with messages := s.ntc.messages ++ [.raise 8 k] } })

/-- A FRESH record becomes HOLDING at its timeout, or LOST when its hold time is 0; a HOLDING record becomes LOST at the end
of its hold time; before those instants nothing happens; the loss of a position signal is told to the position unit and
reported to the limiter supervisor, that of ENGINE_SPEED is told to the economy unit, each with the part time of the expiry,
and no other loss is told (R30, R31, R36; an expiry that is not due leaves the state as it is: log entry 3; that its part time
is the one at which it is taken is the model's choice: log entry 47). -/
def Obligations.SilentSignalAgesToLost : Prop :=
  ∀ (s : State) (r : Role) (t0 : Time) (aged lost : State), s.phase = .running →
    (s.sig.records.get r).accepted = some t0 →
    aged = { s with sig := { s.sig with records := s.sig.records.set r { s.sig.records.get r with state := .holding } } } →
    (isPosition r = true → lost = { s with
      sig := { s.sig with records := s.sig.records.set r { s.sig.records.get r with state := .lost } }
      pos := s.pos.notifyLoss ⟨r, s.now⟩
      lim := { s.lim with events := s.lim.events ++ [.report ⟨.positionLost, some r, none, none, some s.now⟩] } }) →
    (r = .engineSpeed → lost = { s with
      sig := { s.sig with records := s.sig.records.set r { s.sig.records.get r with state := .lost } }
      eco := { s.eco with speedLosses := s.eco.speedLosses ++ [s.now] } }) →
    (isPosition r = false → r ≠ .engineSpeed → lost = { s with
      sig := { s.sig with records := s.sig.records.set r { s.sig.records.get r with state := .lost } } }) →
    ((s.sig.records.get r).state = .fresh → (s.cfg.signal.get r).timeout ≤ (s.now - t0).toNat →
      (0 < (s.cfg.signal.get r).hold → exec (.timeoutExpiry r) s = .next aged) ∧
      ((s.cfg.signal.get r).hold = 0 → exec (.timeoutExpiry r) s = .next lost)) ∧
    ((s.now - t0).toNat < (s.cfg.signal.get r).timeout → exec (.timeoutExpiry r) s = .next s) ∧
    ((s.sig.records.get r).state = .holding →
      (s.cfg.signal.get r).timeout + (s.cfg.signal.get r).hold ≤ (s.now - t0).toNat →
      exec (.holdExpiry r) s = .next lost) ∧
    ((s.now - t0).toNat < (s.cfg.signal.get r).timeout + (s.cfg.signal.get r).hold → exec (.holdExpiry r) s = .next s)

/-! ## Bucket position -/

/-- A notification that names an angle gives a computation: ψ and ω are taken from usable roles, R and H are computed and
saturated when all five position signals are usable and the geometry is valid, and otherwise the record is invalid and
keeps them; the record is handed on. A loss makes the record invalid and hands it on (R49, R52, R54, R55). A role is usable
while FRESH or HOLDING (R34), and the geometry is valid with each field in its range (R42). Losses wait in order, and are
taken before a waiting notification of accepted roles (R51); a later hand-off replaces one that waits (R67). That the record
and the POSITION_CLAMP report reach the limiter supervisor by way of the hand-off to the envelope unit, and that those of a
hand-off replaced are kept, is the model's reading of R55 (log entry 9). -/
def Obligations.PositionComputedOrInvalid : Prop :=
  (∀ (s : State) (n : AcceptNote) (p : PositionRecord) (q : PositionUnit), s.phase = .running →
    s.pos.inHand = some (.accepted n) → (∃ x ∈ n.values, isAngle x.role = true) →
    p.psi = (if usable s.sig.records.slewAngle then s.sig.records.slewAngle.value else s.pos.record.psi) →
    p.omega = (if usable s.sig.records.slewRate then s.sig.records.slewRate.value else s.pos.record.omega) →
    q = { s.pos with record := p }.finish →
    (canCompute s = true → ∀ r h : Int,
      r = radiusSum s.cfg.sine s.cfg.geometry s.sig.records.boomAngle.value s.sig.records.armAngle.value
        s.sig.records.bucketAngle.value →
      h = heightSum s.cfg.sine s.cfg.geometry s.sig.records.boomAngle.value s.sig.records.armAngle.value
        s.sig.records.bucketAngle.value →
      p.r = max 0 (min 32767 r) → p.h = max (-32768) (min 32767 h) →
      p.clamped = decide (r < 0 ∨ 32767 < r ∨ h < -32768 ∨ 32767 < h) → p.computedAt = some n.time →
      p.count = (s.pos.record.count + 1) % 65536 → p.valid = true →
      exec .positionComputation s = .next { s with
        pos := q
        env := { s.env with inbox := s.env.inbox.replace ⟨p, .position p ::
          (if p.clamped then [.report ⟨.positionClamp, none, none, some p, none⟩] else [])⟩ }
        shp := { s.shp with positions := s.shp.positions ++ [⟨p, s.now⟩] } }) ∧
    (canCompute s = false → p = { s.pos.record with psi := p.psi, omega := p.omega, valid := false } →
      exec .positionComputation s = .next { s with
        pos := q
        env := { s.env with inbox := s.env.inbox.replace ⟨p, [.position p]⟩ }
        shp := { s.shp with positions := s.shp.positions ++ [⟨p, s.now⟩] } })) ∧
  (∀ (s : State) (n : LossNote) (p : PositionRecord), s.phase = .running → s.pos.inHand = some (.loss n) →
    p = { s.pos.record with valid := false } →
    exec .lossNotification s = .next { s with
      pos := { s.pos with record := p }.finish
      env := { s.env with inbox := s.env.inbox.replace ⟨p, []⟩ }
      shp := { s.shp with positions := s.shp.positions ++ [⟨p, s.now⟩] } }) ∧
  (∀ w : SignalRecord, usable w = true ↔ w.state = .fresh ∨ w.state = .holding) ∧
  (∀ s : State, canCompute s = true ↔ (∀ r ∈ [Role.boomAngle, .armAngle, .bucketAngle, .slewAngle, .slewRate],
      usable (s.sig.records.get r) = true) ∧
    500 ≤ s.cfg.geometry.boom ∧ s.cfg.geometry.boom ≤ 20000 ∧ 500 ≤ s.cfg.geometry.arm ∧ s.cfg.geometry.arm ≤ 20000 ∧
    500 ≤ s.cfg.geometry.bucket ∧ s.cfg.geometry.bucket ≤ 20000 ∧ -5000 ≤ s.cfg.geometry.r0 ∧
    s.cfg.geometry.r0 ≤ 5000 ∧ 0 ≤ s.cfg.geometry.h0 ∧ s.cfg.geometry.h0 ≤ 10000) ∧
  (∀ (u : PositionUnit) (n : LossNote),
    (u.inHand = none → u.notifyLoss n = { u with inHand := some (.loss n) }) ∧
    (u.inHand.isSome = true → u.notifyLoss n = { u with losses := u.losses ++ [n] }) ∧
    (∀ l rest, u.losses = l :: rest → u.finish = { u with inHand := some (.loss l), losses := rest }) ∧
    (u.losses = [] → (u.waiting = none → u.finish = { u with inHand := none }) ∧
      ∀ w, u.waiting = some w → u.finish = { u with inHand := some (.accepted w), waiting := none })) ∧
  (∀ (b : Inbox EnvelopeHandOff) (x : EnvelopeHandOff),
    (b.inHand = none → b.replace x = { b with inHand := some x }) ∧
    (b.inHand.isSome = true → b.waiting = none → b.replace x = { b with waiting := some x }) ∧
    (∀ w, b.inHand.isSome = true → b.waiting = some w → b.replace x = { b with
      waiting := some ⟨x.record, w.forLimiter ++ x.forLimiter⟩ }))

/-- A slew rate update changes ω alone, and only from a usable SLEW_RATE; it is handed to the envelope unit alone (R53). -/
def Obligations.SlewRateUpdateChangesOmegaAlone : Prop :=
  ∀ (s : State) (n : AcceptNote) (p : PositionRecord), s.phase = .running → s.pos.inHand = some (.accepted n) →
    (∀ x ∈ n.values, isAngle x.role = false) →
    (usable s.sig.records.slewRate = true → p = { s.pos.record with omega := s.sig.records.slewRate.value }) →
    (usable s.sig.records.slewRate = false → p = s.pos.record) →
    exec .slewRateUpdate s = .next { s with
      pos := { s.pos with record := p }.finish
      env := { s.env with inbox := s.env.inbox.replace ⟨p, []⟩ } }

/-- The cosine of an angle is the sine of the angle plus 9000, the sum formed before the reduction; at 0 it is Q(9000),
which is S[90], and at −18000 it is −Q(9000) (R46). The sine is Q by the quadrant of the reduced angle (R44), Q is
interpolated between whole degrees and rounded with halves upward (R45), and each link adds its length times the sine or
cosine over 32768, rounded on its own in the same way (R47, R48). -/
def Obligations.CosineIsShiftedSine : Prop :=
  ∀ t : List Nat, (∀ a : Int, cosine t a = sine t (a + 9000) ∧ cosine t a = sine t ((a + 9000) % 36000)) ∧
    cosine t 0 = quadrant t 9000 ∧ quadrant t 9000 = (t.getD 90 0 : Nat) ∧ cosine t (-18000) = -quadrant t 9000 ∧
    (∀ (a : Int) (r : Nat), (r : Int) = a % 36000 →
      (r ≤ 8999 → sine t a = quadrant t r) ∧ (9000 ≤ r → r ≤ 17999 → sine t a = quadrant t (18000 - r)) ∧
      (18000 ≤ r → r ≤ 26999 → sine t a = -quadrant t (r - 18000)) ∧
      (27000 ≤ r → sine t a = -quadrant t (36000 - r))) ∧
    (∀ i f : Nat, i < 90 → f < 100 → quadrant t (100 * i + f) = (t.getD i 0 : Nat) +
      (((t.getD (i + 1) 0 : Nat) - (t.getD i 0 : Nat) : Int) * f + 50) / 100) ∧
    (∀ (l v p : Int), p = linkPart l v → 32768 * p ≤ l * v + 16384 ∧ l * v + 16384 < 32768 * (p + 1) ∧
      (l * v = -16384 → p = 0) ∧ (l * v = -49152 → p = -1)) ∧
    (∀ (g : Geometry) (b a k : Int),
      radiusSum t g b a k = g.r0 + linkPart g.boom (cosine t b) + linkPart g.arm (cosine t a) +
        linkPart g.bucket (cosine t k) ∧
      heightSum t g b a k = g.h0 + linkPart g.boom (sine t b) + linkPart g.arm (sine t a) + linkPart g.bucket (sine t k))

/-! ## Envelope -/

/-- A distance computation replaces the distance record as a whole, computed on the active bank from the record handed
over; its breaches, lowest entry first, go to the limiter supervisor before what travelled with the hand-off (R55, R67,
R68). The target gain of each axis-direction is the least that the entries give it by their own profiles and clamped
distances (R60, R65, R66). A waiting activation is tested at its end, and the banks swap when the condition holds and no
breach has been found since the request (R75, R76, R78). That the record and the clamp report for the supervisor travel with
the hand-off is the model's reading of R55 (log entry 9), as is, of R77 and R78, that a breach found keeps the banks from
swapping before its report is taken (log entry 39). -/
def Obligations.DistanceComputationReplacesTheRecord : Prop :=
  ∀ (s u : State) (x : EnvelopeHandOff) (d : DistanceRecord) (w : Option Activation), s.phase = .running →
    s.env.inbox.inHand = some x →
    d = distanceOn s.cfg.activeBank (envelopeInputs s) x.record s.env.distance.count →
    w = s.env.activation.map (fun a => { a with breached := a.breached || d.entries.any fun e => e.breached }) →
    u = { s with
      env := { s.env with distance := d, activation := w, testAsked := false, inbox := ⟨s.env.inbox.waiting, none⟩ }
      lim := { s.lim with
        events := s.lim.events ++
          ((List.range 16).filter fun i => (d.entries.getD i ⟨false, 0, false⟩).breached).map
            (fun i => .report ⟨.envelopeBreach, none, some i, none, none⟩) ++ x.forLimiter } } →
    (s.env.activation = none → exec .distanceComputation s = .next u) ∧
    (∀ a, w = some a →
      (¬Completes a u → exec .distanceComputation s = .next u) ∧
      (Completes a u → ∃ t, exec .distanceComputation s = .next { t with env := { t.env with inbox := ⟨none, none⟩ } } ∧
        BanksSwapped a { u with env := { u.env with inbox := ⟨none, s.env.inbox.waiting⟩ } } t)) ∧
    d.entries.length = 16 ∧ d.count = (s.env.distance.count + 1) % 65536 ∧
    (∀ i, i < 16 → ∀ y, d.entries[i]? = some y →
      (y.applicable = applicable (envelopeInputs s) x.record (s.cfg.activeBank.entryAt i)) ∧
      -32768 ≤ y.distance ∧ y.distance ≤ 32767 ∧ (y.applicable = false → y.distance = 0 ∧ y.breached = false) ∧
      (∀ a, approach (envelopeInputs s) x.record s.cfg.activeBank.header (s.cfg.activeBank.entryAt i) = some a →
        y.distance = max (-32768) (min 32767 a.distance) ∧ y.breached = a.breached)) ∧
    (∀ (y : Dir) (gain : Nat → Option Nat),
      (∀ i, i < 16 → GainOf (envelopeInputs s) x.record s.cfg.activeBank y i (gain i)) →
      LeastGain gain (dirGet d.targets y) (dirGet d.restrictive y))

/-- D of a CEILING, REACH and FLOOR entry, one distance for every restricted move (R63, R64), and its breach (R68); the two
distances of a SLEW_ARC entry inside its sector, with the braking allowance of the direction that turns (R61), and the one
outside it, with its breach (R62, R68); the sector of an entry (R58); the gain of a profile for a distance (R60); and when an
entry is applicable, one that is not having no distance (R59). -/
def Obligations.TipDistancesByKind : Prop :=
  (∀ (x : EnvelopeInputs) (p : PositionRecord) (hd : BankHeader) (e : EnvelopeEntry), applicable x p e = true →
    e.kind ≠ .slewArc →
    ∃ a, approach x p hd e = some a ∧
      (e.kind = .ceiling → a.distance = e.limit - e.margin - p.h) ∧
      (e.kind = .reach → a.distance = e.limit - e.margin - p.r) ∧
      (e.kind = .floor →
        a.distance = p.h - (e.limit + (e.slope * (p.r - e.refRadius)).tdiv 1000) - e.margin ∧
        (p.r = e.refRadius → a.distance = p.h - e.limit - e.margin)) ∧
      (a.breached = true ↔ a.distance < -hd.linearTol) ∧
      ∀ (m : Dir) (g : Int), (m, g) ∈ a.restricts ↔ dirGet e.moves m = true ∧ g = a.distance) ∧
  (∀ (x : EnvelopeInputs) (p : PositionRecord) (hd : BankHeader) (e : EnvelopeEntry), applicable x p e = true →
    e.kind = .slewArc → 0 < hd.decel →
    ∃ a, approach x p hd e = some a ∧
      (inSector p.psi e = true → a.breached = false ∧ ∃ brake plus minus : Int,
        p.omega * p.omega ≤ 2 * hd.decel * brake ∧ 2 * hd.decel * (brake - 1) < p.omega * p.omega ∧
        plus = (e.sectorTo - p.psi) % 36000 - (if 0 < p.omega then brake else 0) ∧
        minus = (p.psi - e.sectorFrom) % 36000 - (if p.omega < 0 then brake else 0) ∧
        a.distance = min plus minus ∧ a.restricts = [(⟨.slew, false⟩, plus), (⟨.slew, true⟩, minus)]) ∧
      (inSector p.psi e = false → ∀ past short : Int, past = (p.psi - e.sectorTo) % 36000 →
        short = (e.sectorFrom - p.psi) % 36000 →
        (past ≤ short → a.distance = -past ∧ a.restricts = [(⟨.slew, false⟩, -past)] ∧
          (a.breached = true ↔ hd.angularTol < past)) ∧
        (short < past → a.distance = -short ∧ a.restricts = [(⟨.slew, true⟩, -short)] ∧
          (a.breached = true ↔ hd.angularTol < short)))) ∧
  (∀ (psi : Int) (e : EnvelopeEntry), inSector psi e = true ↔
    ((psi - e.sectorFrom) % 36000 ≤ ((e.sectorTo : Int) - e.sectorFrom) % 36000 ∨
      (e.kind ≠ .slewArc ∧ e.sectorFrom = e.sectorTo))) ∧
  (∀ (q : Profile) (d : Int), ProfileOk q →
    (q.count = 0 ∨ q.thresholds.getD 0 0 ≤ d → profileGain q d = 1024) ∧
    (∀ k, k < q.count → d < q.thresholds.getD 0 0 → d < q.thresholds.getD k 0 →
      (∀ j, k < j → j < q.count → q.thresholds.getD j 0 ≤ d) → profileGain q d = q.gains.getD k 0)) ∧
  (∀ (s : State) (x : EnvelopeInputs), x = envelopeInputs s →
    (x.slewUsable = true ↔ usable s.sig.records.slewAngle = true ∧ usable s.sig.records.slewRate = true) ∧
    x.gradeHold = s.shp.gradeHold) ∧
  (∀ (x : EnvelopeInputs) (p : PositionRecord) (hd : BankHeader) (e : EnvelopeEntry),
    (e.kind = .slewArc → (applicable x p e = true ↔
      e.enabled = true ∧ e.sectorFrom ≠ e.sectorTo ∧ x.slewUsable = true)) ∧
    (e.kind = .ceiling ∨ e.kind = .reach → (applicable x p e = true ↔
      e.enabled = true ∧ p.valid = true ∧ inSector p.psi e = true)) ∧
    (e.kind = .floor → (applicable x p e = true ↔
      e.enabled = true ∧ p.valid = true ∧ inSector p.psi e = true ∧ x.gradeHold = true)) ∧
    (applicable x p e = false → approach x p hd e = none))

/-- The target gain of an axis-direction is the least of the gains that entries give it, and at most 1024; the most
restrictive entry is the lowest-numbered one that gives it, and none at 1024 (R66). The gain that an entry gives is that of
its own profile at its distance for the axis-direction, clamped to 16 bits (R60, R65). -/
def Obligations.TargetGainIsTheLeast : Prop :=
  (∀ (b : Bank) (as : List (Option Approach)) (x : Dir) (gain : Nat → Option Nat),
    (∀ i, gain i = (as.getD i none).bind fun a => entryGain b (b.entryAt i) a x) →
    LeastGain gain (targetOf b as x).1 (targetOf b as x).2) ∧
  (∀ (x : EnvelopeInputs) (p : PositionRecord) (b : Bank) (y : Dir) (i : Nat),
    GainOf x p b y i ((approach x p b.header (b.entryAt i)).bind fun a => entryGain b (b.entryAt i) a y))

/-- A waiting activation ends by the test that finds its condition true, which swaps the banks, or by its timer, the
limiter's departure from NORMAL, or CANCEL, which leave the banks as they were; a test that finds the condition false
leaves it waiting (R75, R76, R77). With no activation waiting CANCEL is answered NOT_ALLOWED on its arrival port and changes
nothing else (R77). One since whose request a breach has been found never completes (R78). The computation
after a swap finds no breach (R76). That CANCELLED is sent before the OK of CANCEL, and that an expiry that is not due leaves
the state as it is, are the model's choices (log entries 12 and 3); that a breach found keeps the banks from swapping before
its report is taken is its reading of R77 and R78 (log entry 39). -/
def Obligations.WaitingActivationEnds : Prop :=
  (∀ (s : State) (a : Activation), s.phase = .running → s.env.activation = some a →
    (s.env.testAsked = true → s.env.inbox.inHand = none → ¬Completes a s →
      exec .activationTest s = .next { s with env := { s.env with testAsked := false } }) ∧
    (s.env.testAsked = true → s.env.inbox.inHand = none → Completes a s →
      ∃ t, exec .activationTest s = .next t ∧ BanksSwapped a s t ∧ (TablesOk s.cfg → BreachReports t.env.distance = [])) ∧
    (10000 ≤ (s.now - a.since).toNat → exec .activationTimeout s = .next { s with
      env := { s.env with activation := none, testAsked := false }
      mgt := { s.mgt with progress := none }
      ports := s.ports.set a.port (offerTo (s.ports.get a.port) .own
        (replyFrame s.cfg.identity.reply 5 a.sequence .timeout [])) }) ∧
    ((s.now - a.since).toNat < 10000 → exec .activationTimeout s = .next s) ∧
    (exec .limiterLeftNormal s = .next { s with
      env := { s.env with activation := none, testAsked := false }
      mgt := { s.mgt with progress := none }
      ports := s.ports.set a.port (offerTo (s.ports.get a.port) .own
        (replyFrame s.cfg.identity.reply 5 a.sequence .notAllowed [])) }) ∧
    (∀ m, RequestInHand s m 6 → exec .cancel s = .next (answer m .ok [] { s with
      env := { s.env with activation := none, testAsked := false }
      mgt := { s.mgt with progress := none, inbox := ⟨s.mgt.inbox.waiting, none⟩ }
      ports := s.ports.set a.port (offerTo (s.ports.get a.port) .own
        (replyFrame s.cfg.identity.reply 5 a.sequence .cancelled [])) })) ∧
    (∀ (c : Instr) (t : State), a.breached = true → RequestOk s → c ≠ .resetAsserted → (∀ w, c ≠ .fullReset w) →
      exec c s = .next t →
      t.cfg.active = s.cfg.active ∧ (t.env.activation = none ∨ t.env.activation = some a))) ∧
  (∀ (s : State) (m : ManagementFrame), RequestInHand s m 6 → s.env.activation = none →
    exec .cancel s = .next (answer m .notAllowed [] s.finishManagement))

/-- ACTIVATE_BANK is refused outside NORMAL and for a shadow bank that fails validation, naming the first failure; otherwise
the activation waits, or the banks swap at once when the condition already holds (R73, R74, R75, R76). An entry fails that is
enabled and names a profile of step count 0 of the same bank (R72, R74), a profile whose steps in use do not descend. While a distance
computation is in hand the first test is the one at its end (log entry 26). That the timer starts when the request is served
is the model's choice (log entry 40). -/
def Obligations.ActivateBankValidatesThenWaits : Prop :=
  (∀ (s s' : State) (m : ManagementFrame), RequestInHand s m 5 → s.mgt.progress = none → s' = s.finishManagement →
    (s.lim.state ≠ .normal → exec .activateBank s = .next (answer m .notAllowed [] s')) ∧
    (∀ k n, s.lim.state = .normal → validationFailure s.cfg.shadowBank = some (k, n) →
      exec .activateBank s = .next (answer m .badValue [byteOf k, byteOf n] s')) ∧
    (∀ (a : Activation) (u : State), s.lim.state = .normal → validationFailure s.cfg.shadowBank = none →
      a = { port := m.port, sequence := byteAt m.data 1, since := s.now, breached := false } →
      u = { s' with
        env := { s.env with activation := some a }
        mgt := { s'.mgt with
          progress := some { kind := .activateBank, port := m.port, sequence := byteAt m.data 1 } } } →
      (¬MaySwap s ∨ s.env.inbox.inHand.isSome = true → exec .activateBank s = .next u) ∧
      (MaySwap s → s.env.inbox.inHand = none → ∃ t, exec .activateBank s = .next t ∧ BanksSwapped a u t))) ∧
  (∀ (b : Bank) (k n : Nat), validationFailure b = some (k, n) ↔
    (k = 1 ∧ n < 16 ∧ inconsistent b (b.entryAt n) = true ∧ ∀ j, j < n → inconsistent b (b.entryAt j) = false) ∨
    (k = 2 ∧ n < 8 ∧ (∀ j, j < 16 → inconsistent b (b.entryAt j) = false) ∧
      ¬((b.profileAt n).thresholds.take (b.profileAt n).count).Pairwise (fun x y => y < x) ∧
      ∀ j, j < n → ((b.profileAt j).thresholds.take (b.profileAt j).count).Pairwise (fun x y => y < x))) ∧
  (∀ (b : Bank) (e : EnvelopeEntry), inconsistent b e = true ↔ (e.enabled = true ∧ (b.profileAt e.profile).count = 0))

/-- COPY_BANK makes the shadow bank equal to the active one and changes neither the active bank, its number nor the distance
record; it needs no MAINT_EN, and while an activation waits it is answered BUSY (R71). -/
def Obligations.CopyBankCopiesTheWholeActiveBank : Prop :=
  ∀ (s : State) (m : ManagementFrame), RequestInHand s m 4 →
    (s.mgt.progress = none → ∃ t, exec .copyBank s = .next (answer m .ok [] t) ∧
      t = { s with cfg := t.cfg, mgt := t.mgt } ∧
      t.cfg.bank (otherBank s.cfg.active) = s.cfg.bank s.cfg.active ∧ t.cfg.bank s.cfg.active = s.cfg.bank s.cfg.active ∧
      t.cfg = { s.cfg with bank0 := t.cfg.bank0, bank1 := t.cfg.bank1 } ∧
      t.mgt = { s.mgt with modified := true, inbox := ⟨s.mgt.inbox.waiting, none⟩ }) ∧
    (RequestOk s → s.env.activation.isSome = true →
      exec .copyBank s = .next (answer m .busy [] s.finishManagement))

/-! ## Shaping and guidance -/

/-- A command frame: the held gains of present axes rise toward their targets by the rise limit or fall to them at once, the
raw values are clamped and shaped, the frame is rewritten and forwarded on the other port, the hard-stop flags follow, and
the hand-offs are made (R80 to R88, R90). An axis-direction is pressed by a raw value of its sign beyond the deadband (R90).
That a test asked for before is made with it, as one test, is the model's choice
(log entry 41). -/
def Obligations.CommandFrameIsShapedAndForwarded : Prop :=
  (∀ (s : State) (p : Port) (f : Frame) (o : PerAxis (Option Nat)) (c : Option Nat), s.phase = .running →
    s.shp.inbox.inHand = some (.command p f o c) →
    ∃ t, exec .commandFrame s = .next t ∧
      t = { s with shp := t.shp, svc := t.svc, eco := t.eco, env := t.env, ports := t.ports } ∧
      t.shp = { s.shp with
        heldGains := t.shp.heldGains, lastRaw := t.shp.lastRaw, lastShaped := t.shp.lastShaped
        hardStops := t.shp.hardStops, clampCount := t.shp.clampCount, inbox := ⟨s.shp.inbox.waiting, none⟩ } ∧
      (∀ d, o.get d.axis = none → dirGet t.shp.heldGains d = dirGet s.shp.heldGains d ∧
        dirGet t.shp.hardStops d = dirGet s.shp.hardStops d) ∧
      (∀ d k target, o.get d.axis = some k →
        (s.lim.state = .normal → target = dirGet s.env.distance.targets d) →
        (s.lim.state = .startup ∨ s.lim.state = .restricted →
          target = min s.cfg.activeBank.header.creep (dirGet s.env.distance.targets d)) →
        (s.lim.state = .hold → target = 0) →
        dirGet t.shp.heldGains d = min target (dirGet s.shp.heldGains d + s.cfg.activeBank.header.rise) ∧
        dirGet t.shp.hardStops d = (pressing s.cfg.identity.deadband (t.shp.lastRaw.get d.axis) d &&
          decide (dirGet t.shp.heldGains d = 0))) ∧
      (∀ x, o.get x = none → t.shp.lastRaw.get x = s.shp.lastRaw.get x ∧ t.shp.lastShaped.get x = s.shp.lastShaped.get x) ∧
      (∀ x k, o.get x = some k → t.shp.lastRaw.get x = max (-1000) (min 1000 (halfAt f.data k).toInt) ∧
        t.shp.lastShaped.get x = shapedValue (t.shp.heldGains.get x) (t.shp.lastRaw.get x)) ∧
      t.shp.clampCount = min (s.shp.clampCount + axes.countP (fun x =>
        match o.get x with
        | none => false
        | some k => decide ((halfAt f.data k).toInt < -1000 ∨ 1000 < (halfAt f.data k).toInt))) 65535 ∧
      t.svc = { s.svc with
        hardStopReports := s.svc.hardStopReports +
          dirs.countP fun d => dirGet t.shp.hardStops d && !dirGet s.shp.hardStops d } ∧
      t.eco = { s.eco with commands := s.eco.commands ++ [⟨t.shp.lastRaw, t.shp.lastShaped⟩] } ∧
      t.env = { s.env with testAsked := s.env.testAsked || s.env.activation.isSome } ∧
      t.ports = s.ports.set (otherPort p) (offerTo (s.ports.get (otherPort p)) .forwarded
        ⟨f.ident, rewritten o c (PerAxis.tabulate fun x => (o.get x).map fun _ => t.shp.lastShaped.get x) f.data⟩)) ∧
  (∀ (deadband : Nat) (raw : Int) (d : Dir), pressing deadband raw d = true ↔
    (deadband < raw.natAbs ∧ (d.negative = false → 0 < raw) ∧ (d.negative = true → raw < 0)))

/-- A shaped value is the raw value's magnitude times the gain over 1024, rounded down, with the raw value's sign, so that a
gain of at most 1024 never amplifies (R84); a check byte that is set closes the eight-bit sum of a frame and changes no
other byte (section 0.6, R85). The rewritten frame holds each shaped value at its axis offset, signed and high byte first;
every byte that no offset and no check position names, and the data length, are carried unchanged (R85). -/
def Obligations.ShapingNeverAmplifiesAndChecksClose : Prop :=
  (∀ (g : Sided Nat) (v : Int), g.pos ≤ 1024 → g.neg ≤ 1024 →
    (0 ≤ v → 0 ≤ shapedValue g v ∧ shapedValue g v ≤ v ∧ shapedValue g v = v * g.pos / 1024) ∧
    (v ≤ 0 → shapedValue g v ≤ 0 ∧ v ≤ shapedValue g v ∧ shapedValue g v = -(-v * g.neg / 1024)) ∧
    (g.pos = 1024 → g.neg = 1024 → shapedValue g v = v)) ∧
  (∀ (d : List Byte) (i : Nat), i < d.length → byteSum (closeCheck d i) = 0 ∧
    ∀ j, j ≠ i → (closeCheck d i)[j]? = d[j]?) ∧
  (∀ (o : PerAxis (Option Nat)) (c : Option Nat) (v : PerAxis Int) (d w : List Byte),
    w = rewritten o c (PerAxis.tabulate fun x => (o.get x).map fun _ => v.get x) d →
    w.length = d.length ∧
    (∀ j, (∀ x k, o.get x = some k → j ≠ k ∧ j ≠ k + 1) → c ≠ some j → w[j]? = d[j]?) ∧
    (∀ x k, o.get x = some k → k + 1 < d.length → c ≠ some k → c ≠ some (k + 1) →
      (∀ y k', y ≠ x → o.get y = some k' → k' + 1 < k ∨ k + 1 < k') → halfAt w k = BitVec.ofInt 16 (v.get x)) ∧
    (∀ i, c = some i → i < d.length → (∃ x, (o.get x).isSome = true) → byteSum w = 0) ∧
    ((∀ x, o.get x = none) → w = d))

/-- At a limiter transition all twelve held gains fall to the creep gain at most, or to 0; a console frame sets grade hold,
and clears the in-band flag when it turns off (R89, R92). -/
def Obligations.TransitionsLowerGainsAndConsoleSetsGradeHold : Prop :=
  (∀ (s : State) (k : GainTransition), s.phase = .running → ∃ g : PerDir Nat,
    exec (.heldGainLowering k) s = .next { s with shp := { s.shp with heldGains := g } } ∧
    (k = .enterRestricted ∨ k = .reload → ∀ d, dirGet g d = min (dirGet s.shp.heldGains d) s.cfg.activeBank.header.creep) ∧
    (k = .enterHold ∨ k = .release ∨ k = .fullReset → ∀ d, dirGet g d = 0)) ∧
  (∀ (s : State) (d : List Byte) (on : Bool), s.phase = .running → s.shp.inbox.inHand = some (.console d) →
    on = (byteAt d 2).getLsbD 2 →
    exec .gradeHoldConsole s = .next { s with shp := { s.shp with
      gradeHold := on
      inBand := (if s.shp.gradeHold = true ∧ on = false then false else s.shp.inBand)
      inbox := ⟨s.shp.inbox.waiting, none⟩ } })

/-- A hand-off of the position record sets the active grade, the tip-to-grade and the in-band flag, raises GRADE_REACHED on
entry into the band, and composes a guidance frame when none has been composed or the guidance period has elapsed (R93 to
R98); the grade height is that of R64. That the part time is that of the hand-over and the settings are those at the taking,
when the hand-off waits, is the model's choice (log entry 45). -/
def Obligations.GuidanceFollowsThePosition : Prop :=
  (∀ (s : State) (x : PositionHandOff) (rest : List PositionHandOff) (grade : Option Nat) (tip : Option Int) (band : Bool),
    s.phase = .running → s.shp.positions = x :: rest →
    (∀ i, grade = some i ↔ (x.record.valid = true ∧ i < 16 ∧ (s.cfg.activeBank.entryAt i).enabled = true ∧
      (s.cfg.activeBank.entryAt i).kind = .floor ∧ inSector x.record.psi (s.cfg.activeBank.entryAt i) = true ∧
      ∀ j, j < i → ¬((s.cfg.activeBank.entryAt j).enabled = true ∧ (s.cfg.activeBank.entryAt j).kind = .floor ∧
        inSector x.record.psi (s.cfg.activeBank.entryAt j) = true))) →
    tip = grade.map (fun i => max (-32767) (min 32767
      (x.record.h - gradeHeight (s.cfg.activeBank.entryAt i) x.record.r))) →
    (band = true ↔ (s.shp.gradeHold = true ∧ ∃ v, tip = some v ∧ v.natAbs ≤ s.cfg.identity.gradeBand)) →
    ∃ t, exec .guidanceHandOff s = .next t ∧ t = { s with shp := t.shp, ntc := t.ntc, ports := t.ports } ∧
      t.shp = { s.shp with
        activeGrade := grade, tipToGrade := tip, inBand := band, positions := rest, lastGuidance := t.shp.lastGuidance
        guidanceCounter := t.shp.guidanceCounter } ∧
      (∀ i, band = true → s.shp.inBand = false → grade = some i →
        t.ntc = { s.ntc with messages := s.ntc.messages ++ [.raise 9 i] }) ∧
      (band = false ∨ s.shp.inBand = true → t.ntc = s.ntc) ∧
      ((s.shp.lastGuidance = none ∨ ∃ t0, s.shp.lastGuidance = some t0 ∧ s.cfg.identity.guidancePeriod ≤ (x.time - t0).toNat) →
        t.shp.lastGuidance = some x.time ∧ t.shp.guidanceCounter = (s.shp.guidanceCounter + 1) % 16 ∧
        ∃ g : Frame, g.ident = s.cfg.identity.guidance ∧ g.data.length = 8 ∧ byteSum g.data = 0 ∧
          halfAt g.data 0 = halfOf (32768 * flagOf s.shp.gradeHold + x.record.r.toNat % 32768) ∧
          byteAt g.data 6 = byteOf (s.shp.guidanceCounter % 16 + 16 * limiterCode s.lim.state +
            64 * flagOf x.record.valid + 128 * flagOf x.record.clamped) ∧
          halfAt g.data 2 = BitVec.ofInt 16 x.record.h ∧ halfAt g.data 4 = BitVec.ofInt 16 (tip.getD (-32768)) ∧
          t.ports = { s.ports with a := offerTo s.ports.a .own g }) ∧
      ((∃ t0, s.shp.lastGuidance = some t0 ∧ (x.time - t0).toNat < s.cfg.identity.guidancePeriod) →
        t.shp.lastGuidance = s.shp.lastGuidance ∧ t.shp.guidanceCounter = s.shp.guidanceCounter ∧ t.ports = s.ports)) ∧
  (∀ (e : EnvelopeEntry) (r : Int), gradeHeight e r = e.limit + (e.slope * (r - e.refRadius)).tdiv 1000)

/-! ## Limiter supervision -/

/-- STARTUP ends by the first valid, unclamped record, which starts nothing else, or by its timer, which opens a
POSITION_LOST record that names the first position signal that is not usable (R102, R103); an acknowledgement closes the open
record in RESTRICTED, with its tag and the condition absent, and is counted there otherwise (R112; an expiry that is not due leaves the state as it is: log entry 3). -/
def Obligations.StartupEndsAndAcknowledgementCloses : Prop :=
  (∀ (s : State) (p : PositionRecord) (rest : List LimiterEvent), s.phase = .running → s.lim.events = .position p :: rest →
    (s.lim.state = .startup ∧ p.valid = true ∧ p.clamped = false → exec .limiterPositionTest s = .next { s with
      lim := { s.lim with events := rest, state := .normal, startupSince := none } }) ∧
    (¬(s.lim.state = .startup ∧ p.valid = true ∧ p.clamped = false) → exec .limiterPositionTest s = .next { s with
      lim := { s.lim with events := rest } })) ∧
  (∀ (s : State) (t0 : Time) (f : FaultRecord) (role : Option Role), s.phase = .running → s.lim.state = .startup →
    s.lim.startupSince = some t0 →
    (∀ r, role = some r ↔ ∃ l m, positionRoles = l ++ r :: m ∧ usable (s.sig.records.get r) = false ∧
      ∀ q ∈ l, usable (s.sig.records.get q) = true) →
    OpenedRecord s ⟨.positionLost, role, none, none, none⟩ f →
    (5000 ≤ (s.now - t0).toNat → ∃ t, exec .startupTimerExpiry s = .next t ∧ EnteredRestricted s f t) ∧
    ((s.now - t0).toNat < 5000 → exec .startupTimerExpiry s = .next s)) ∧
  (∀ (s s1 : State) (d : List Byte) (tag : Nat), s.phase = .running → s.lim.inbox.inHand = some d →
    tag = (byteAt d 4).toNat → s1 = { s with lim := { s.lim with inbox := ⟨s.lim.inbox.waiting, none⟩ } } →
    (tag = 0 ∨ s.lim.state ≠ .restricted → exec .faultAcknowledgement s = .next s1) ∧
    (∀ f, tag ≠ 0 → s.lim.state = .restricted → s.lim.openRecord = some f →
      (tag = f.tag → ConditionAbsent s → exec .faultAcknowledgement s = .next { s1 with
        lim := { s1.lim with
          state := .normal, openRecord := none, history := noted s.lim.history { f with closed := .acked } } }) ∧
      (tag = f.tag → ¬ConditionAbsent s → exec .faultAcknowledgement s = .next { s1 with
        lim := { s1.lim with ackEarly := min (s.lim.ackEarly + 1) 65535 } }) ∧
      (tag ≠ f.tag → exec .faultAcknowledgement s = .next { s1 with
        lim := { s1.lim with ackMismatch := min (s.lim.ackMismatch + 1) 65535 } })))

/-- The supervisor takes a report by its state: a fault in NORMAL, and but for POSITION_LOST in STARTUP, opens a record and
enters RESTRICTED; in RESTRICTED a matching report is a repeat, and any other a second fault that enters HOLD (R104 to
R109). That the held gains are lowered (R89) and a waiting activation is answered NOT_ALLOWED (R77) within the report itself
is the model's choice (log entry 8). -/
def Obligations.ReportsAreTakenByTheState : Prop :=
  ∀ (s s1 : State) (r : FaultReport) (rest : List LimiterEvent), s.phase = .running → s.lim.events = .report r :: rest →
    s1 = { s with lim := { s.lim with events := rest } } →
    (∀ f, s.lim.state = .normal ∨ (s.lim.state = .startup ∧ r.kind ≠ .positionLost) → OpenedRecord s r f →
      ∃ t, exec .faultReport s = .next t ∧ EnteredRestricted s1 f t) ∧
    (s.lim.state = .startup → r.kind = .positionLost → exec .faultReport s = .next s1) ∧
    (∀ o, s.lim.state = .restricted → s.lim.openRecord = some o →
      (Matches r o → exec .faultReport s = .next { s1 with
        lim := { s1.lim with
          openRecord := some { o with repeats := min (o.repeats + 1) 65535 }
          history := noted s.lim.history { o with repeats := min (o.repeats + 1) 65535 } } }) ∧
      (∀ f, ¬Matches r o → OpenedRecord s r f → ∃ t, exec .faultReport s = .next t ∧ EnteredHold s1 f t))

/-- In HOLD a report repeats a record or is counted FAULT_IN_HOLD, and opens no record and raises nothing; RELOAD is refused;
no command but FAULT_RELEASE and the two commands of RESET leaves HOLD (R110). -/
def Obligations.HoldIsKeptUntilReleaseOrReset : Prop :=
  (∀ (s s1 : State) (r : FaultReport) (rest : List LimiterEvent) (o g : FaultRecord), s.phase = .running →
    s.lim.events = .report r :: rest → s1 = { s with lim := { s.lim with events := rest } } → s.lim.state = .hold →
    s.lim.openRecord = some o → s.lim.secondRecord = some g →
    (Matches r o → exec .faultReport s = .next { s1 with
      lim := { s1.lim with
        openRecord := some { o with repeats := min (o.repeats + 1) 65535 }
        history := noted s.lim.history { o with repeats := min (o.repeats + 1) 65535 } } }) ∧
    (¬Matches r o → Matches r g → exec .faultReport s = .next { s1 with
      lim := { s1.lim with
        secondRecord := some { g with repeats := min (g.repeats + 1) 65535 }
        history := noted s.lim.history { g with repeats := min (g.repeats + 1) 65535 } } }) ∧
    (¬Matches r o → ¬Matches r g → exec .faultReport s = .next { s1 with
      lim := { s1.lim with faultInHold := min (s.lim.faultInHold + 1) 65535 } })) ∧
  (∀ (s : State) (m : ManagementFrame), RequestInHand s m 8 → s.mgt.progress = none → s.lim.state = .hold →
    exec (.reload true) s = .next (answer m .notAllowed [] { s.finishManagement with maintEn := true })) ∧
  (∀ (c : Instr) (s t : State), s.lim.state = .hold → s.phase ≠ .startUp → exec c s = .next t →
    (t.lim.state = .hold ∧ t.lim.openRecord.map (fun f => f.tag) = s.lim.openRecord.map (fun f => f.tag) ∧
      t.lim.secondRecord.map (fun f => f.tag) = s.lim.secondRecord.map (fun f => f.tag) ∧ t.pilotCut = s.pilotCut) ∨
    (∃ b, c = .faultRelease b) ∨ c = .resetAsserted ∨ ∃ b, c = .fullReset b)

/-- FAULT_RELEASE makes its five tests in order and is refused with the number of the first that fails; a release closes
both records, enters NORMAL, negates PILOT_CUT and sets every held gain to 0 (R114). -/
def Obligations.FaultReleaseTestsInOrder : Prop :=
  ∀ (s s1 : State) (m : ManagementFrame) (me : Bool), RequestInHand s m 10 → s.mgt.progress = none →
    s1 = { s.finishManagement with maintEn := me } →
    (s.lim.state ≠ .hold → exec (.faultRelease me) s = .next (answer m .notAllowed [1] s1)) ∧
    (s.lim.state = .hold →
      (me = false → exec (.faultRelease me) s = .next (answer m .notAllowed [2] s1)) ∧
      (me = true →
        ((∃ r ∈ positionRoles, (s.sig.records.get r).state ≠ .fresh) →
          exec (.faultRelease me) s = .next (answer m .notAllowed [3] s1)) ∧
        ((∀ r ∈ positionRoles, (s.sig.records.get r).state = .fresh) → ¬ConditionAbsent s →
          exec (.faultRelease me) s = .next (answer m .notAllowed [4] s1)) ∧
        (ConditionAbsent s → (∃ x, s.cfg.identity.deadband < (s.shp.lastRaw.get x).natAbs) →
          exec (.faultRelease me) s = .next (answer m .notAllowed [5] s1)) ∧
        (∀ o g, ConditionAbsent s → (∀ x, (s.shp.lastRaw.get x).natAbs ≤ s.cfg.identity.deadband) →
          s.lim.openRecord = some o → s.lim.secondRecord = some g →
          ∃ gains : PerDir Nat, (∀ d, dirGet gains d = 0) ∧
            exec (.faultRelease me) s = .next (answer m .ok [] { s1 with
              lim := { s.lim with
                state := .normal, openRecord := none, secondRecord := none
                history := noted (noted s.lim.history { o with closed := .released }) { g with closed := .released } }
              pilotCut := false
              shp := { s.shp with heldGains := gains } }))))

/-- Every step keeps the limiter supervisor sound: the records that its state calls for, PILOT_CUT exactly in HOLD and under
RESET, a waiting activation only in NORMAL, and every held gain under the ceiling of the state. -/
def Obligations.EveryStepKeepsTheLimiterSound : Prop :=
  ∀ s t : State, LimiterOk s → step s = .next t → LimiterOk t

/-! ## Engine economy -/

/-- The curve value for a demand: the first speed below the first point, the last from the last point on, and between two
points the interpolation rounded down; and what the built-in curve gives at its four points (R125). -/
def Obligations.CurveValueIsInterpolated : Prop :=
  (curveValue defaultEconomy 0 = 1100 ∧ curveValue defaultEconomy 300 = 1400 ∧ curveValue defaultEconomy 700 = 1800 ∧
    curveValue defaultEconomy 1000 = 1900) ∧
  ∀ (e : EconomySettings) (d : Nat), EconomyOk e →
    (d < e.demands.getD 0 0 → curveValue e d = (e.speeds.getD 0 0 : Nat)) ∧
    ∀ i, i < e.pointCount → e.demands.getD i 0 ≤ d →
      (i + 1 = e.pointCount → curveValue e d = (e.speeds.getD i 0 : Nat)) ∧
      (i + 1 < e.pointCount → d < e.demands.getD (i + 1) 0 → curveValue e d = (e.speeds.getD i 0 : Nat) +
        (((e.speeds.getD (i + 1) 0 : Int) - (e.speeds.getD i 0 : Nat)) * ((d : Int) - (e.demands.getD i 0 : Nat))) /
          ((e.demands.getD (i + 1) 0 : Int) - (e.demands.getD i 0 : Nat))) ∧
      (d = e.demands.getD i 0 → curveValue e d = (e.speeds.getD i 0 : Nat))

/-- A target lies within idle to max, and within the limp speed while limp is engaged; its base follows the economy state
and the power mode; its reason is the first that applies (R126, R127). -/
def Obligations.TargetAndReasonByTheState : Prop :=
  ∀ (e : EconomySettings) (u : EconomyUnit) (dial curve base : Int), EconomyOk e →
    dial = max (e.idle : Int) (min (e.max : Int) (u.dial.getD e.idle : Nat)) →
    curve = max (e.idle : Int) (min (e.max : Int) (curveValue e u.demand)) →
    (u.state = .autoIdle → base = e.idle) → (u.state = .fallback ∨ (u.state = .run ∧ u.mode = .full) → base = dial) →
    (u.state = .run ∧ u.mode = .eco → base = min dial curve) →
    e.idle ≤ targetSpeed e u ∧ targetSpeed e u ≤ e.max ∧ (u.limp = true → targetSpeed e u ≤ e.limp) ∧
    (targetSpeed e u : Int) = (if u.limp = true then min base e.limp else base) ∧
    targetReason e u =
      (if u.state = .fallback then .fallback
      else if u.limp = true ∧ (e.limp : Int) < base then .limp
      else if u.state = .autoIdle then .idle
      else if u.mode = .eco ∧ curve < dial then .eco
      else .dial)

/-- A command frame notification sets the demand; then in RUN the auto-idle timer is judged and the target settled, in
AUTO_IDLE a lever out of neutral returns the unit to RUN, and in FALLBACK the target alone is computed (R124, R129, R131,
R133, R135); all axes neutral is judged on the last raw values as they stand at the notification (R87). That the part time
of the event is that of the taking is the model's choice (log entry 21). -/
def Obligations.CommandNotificationSettlesTheTarget : Prop :=
  ∀ (s u : State) (n : CommandNote) (rest : List CommandNote), s.phase = .running → s.eco.commands = n :: rest →
    u = { s with eco := { s.eco with
      commands := rest
      demand := min 1000 ((axes.map fun x => (n.shaped.get x).natAbs * s.cfg.economy.weights.get x).sum / 100) } } →
    ∃ t, exec .economyCommandNotify s = .next t ∧
      (∀ timer, s.eco.state = .run → JudgedTimer s s.shp.lastRaw timer →
        Settled false { u with eco := { u.eco with timer := timer } } t) ∧
      (s.eco.state = .autoIdle → (∀ x, (s.shp.lastRaw.get x).natAbs ≤ s.cfg.identity.deadband) → Settled false u t) ∧
      (s.eco.state = .autoIdle → (∃ x, s.cfg.identity.deadband < (s.shp.lastRaw.get x).natAbs) →
        ∃ v, Settled false { u with eco := { u.eco with state := .run } } v ∧
          t = { v with eco := { v.eco with timer := none } }) ∧
      (s.eco.state = .fallback → Settled false u t)

/-- A console frame sets dial, power mode and auto-idle switch and counts a dial outside idle to max; the unit then goes on
as its state says, and in FALLBACK an untracked request with tag 0 follows (R123, R129, R133, R148). That the part time of
the event is that of the taking is the model's choice (log entry 21). -/
def Obligations.ConsoleSetsTheEconomySettings : Prop :=
  ∀ (s u : State) (d : List Byte) (dial : Nat), s.phase = .running → s.eco.inbox.inHand = some d →
    dial = (halfAt d 0).toNat →
    u = { s with eco := { s.eco with
      inbox := ⟨s.eco.inbox.waiting, none⟩
      dial := some dial
      mode := (if (byteAt d 2).getLsbD 0 then .full else .eco)
      autoIdleOn := (byteAt d 2).getLsbD 1
      dialClamps := (if dial < s.cfg.economy.idle ∨ s.cfg.economy.max < dial then min (s.eco.dialClamps + 1) 65535
        else s.eco.dialClamps) } } →
    ∃ t, exec .economyConsole s = .next t ∧
      (∀ timer, s.eco.state = .run → JudgedTimer u s.shp.lastRaw timer →
        Settled false { u with eco := { u.eco with timer := timer } } t) ∧
      (s.eco.state = .autoIdle → u.eco.autoIdleOn = true → Settled false u t) ∧
      (s.eco.state = .autoIdle → u.eco.autoIdleOn = false →
        ∃ v, Settled false { u with eco := { u.eco with state := .run } } v ∧
          t = { v with eco := { v.eco with timer := none } }) ∧
      (s.eco.state = .fallback → ∃ v f, Settled false u v ∧
        IsEngineFrame v 0 ⟨targetSpeed s.cfg.economy u.eco, .fallback⟩ f ∧
        t = { v with
          eco := { v.eco with lastIssued := some ⟨targetSpeed s.cfg.economy u.eco, .fallback⟩ }
          ports := { v.ports with b := offerTo v.ports.b .own f } })

/-- SLEW_RATE and ENGINE_SPEED acceptances, the loss of ENGINE_SPEED, the expiry of the auto-idle timer and limp changes
(R128, R131 to R134; an expiry that is not due leaves the state as it is: log entry 3; the part time of the event is that
of the taking: log entry 21). -/
def Obligations.IdleAndLimpFollowTheirEvents : Prop :=
  (∀ (s u : State) (v : Int) (rest : List Int), s.phase = .running → s.eco.slewRates = v :: rest →
    u = { s with eco := { s.eco with slewRates := rest, lastSlew := some v } } →
    (∀ timer, s.eco.state = .run → JudgedTimer u s.shp.lastRaw timer →
      exec .slewRateAcceptance s = .next { u with eco := { u.eco with timer := timer } }) ∧
    (s.eco.state = .autoIdle → s.cfg.economy.slewStill ≤ v.natAbs → ∃ w, exec .slewRateAcceptance s =
        .next { w with eco := { w.eco with timer := none } } ∧
      Settled false { u with eco := { u.eco with state := .run } } w) ∧
    (s.eco.state = .fallback ∨ (s.eco.state = .autoIdle ∧ v.natAbs < s.cfg.economy.slewStill) →
      exec .slewRateAcceptance s = .next u)) ∧
  (∀ (s : State) (v : Int) (rest : List Int), s.phase = .running → s.eco.speeds = v :: rest →
    (∀ timer, s.eco.state = .run → JudgedTimer s s.shp.lastRaw timer →
      exec .engineSpeedAcceptance s = .next { s with eco := { s.eco with speeds := rest, timer := timer } }) ∧
    (s.eco.state ≠ .run → exec .engineSpeedAcceptance s = .next { s with eco := { s.eco with speeds := rest } })) ∧
  (∀ (s : State) (v : Time) (rest : List Time), s.phase = .running → s.eco.speedLosses = v :: rest →
    exec .engineSpeedLoss s = .next { s with eco := { s.eco with speedLosses := rest, timer := none } }) ∧
  (∀ (s : State) (t0 : Time), s.phase = .running → s.eco.state = .run → s.eco.timer = some t0 →
    (1000 * s.cfg.economy.autoIdleDelay ≤ (s.now - t0).toNat → ∃ t, exec .autoIdleExpiry s = .next t ∧
      Settled false { s with eco := { s.eco with state := .autoIdle, timer := none } } t) ∧
    ((s.now - t0).toNat < 1000 * s.cfg.economy.autoIdleDelay → exec .autoIdleExpiry s = .next s)) ∧
  (∀ (s : State) (i : Nat) (rest : List LimpChange), s.phase = .running → s.eco.limpChanges = .engage i :: rest →
    ∃ t, exec .limpChange s = .next t ∧ Settled true { s with
      eco := { s.eco with limpChanges := rest, limp := true }
      ntc := { s.ntc with messages := s.ntc.messages ++ [.raise 5 i] } } t) ∧
  (∀ (s : State) (rest : List LimpChange), s.phase = .running → s.eco.limpChanges = .disengage :: rest →
    ∃ t, exec .limpChange s = .next t ∧ Settled false { s with
      eco := { s.eco with limpChanges := rest, limp := false } } t)

/-! ## Engine request queue -/

/-- A reply in RUN or AUTO_IDLE: the entries before the named one leave as SKIPPED, its status is applied, and the pending
target is looked at; an entry that becomes the oldest with its expiry instant reached times out within the same event; a
reply that names no entry, or has no status, is STRAY; a reply in FALLBACK ends it with a tracked request (R135, R139,
R141 to R144, R149). A tag is allocated as the last one plus one, 255 followed by 1, passing over the tags that the queue
holds, within five steps (R139). An instant is taken as reached for half of the range of part time (log entry 7), the part time of the
reply is that of the taking (log entry 21), the counts stop at 65535 (log entry 32), and a pending target stays while the
queue is full (log entry 33). -/
def Obligations.EngineReplyIsAppliedToItsEntry : Prop :=
  (∀ (s u : State) (d : List Byte), s.phase = .running → s.eng.inbox.inHand = some d →
    u = { s with eng := { s.eng with
      inbox := ⟨s.eng.inbox.waiting, none⟩
      lastReply := some ⟨(byteAt d 0).toNat, (byteAt d 1).toNat, (halfAt d 2).toNat, s.now⟩ } } →
    (s.eco.state ≠ .fallback →
      ((byteAt d 1).toNat = 0 ∨ 3 < (byteAt d 1).toNat ∨ (byteAt d 0).toNat ∉ queueTags s.eng →
        exec .engineReplyTaken s = .next { u with eng := { u.eng with stray := min (s.eng.stray + 1) 65535 } }) ∧
      (∀ (old young : List EngineEntry) (e : EngineEntry) (v : State), s.eng.entries = old ++ e :: young →
        e.tag = (byteAt d 0).toNat → (∀ x ∈ old, x.tag ≠ e.tag) →
        ((byteAt d 1).toNat = 1 → v = { u with eng := { u.eng with
          entries := young, refusals := 0, skipped := min (s.eng.skipped + old.length) 65535 } }) →
        ((byteAt d 1).toNat = 2 → v = { u with eng := { u.eng with
          entries := { e with deferred := true, expiry := s.now + BitVec.ofNat 32 s.cfg.economy.deferralLimit } :: young
          skipped := min (s.eng.skipped + old.length) 65535 } }) →
        ((byteAt d 1).toNat = 3 → v = { u with
          eng := { u.eng with
            entries := young
            refusals := (if 2 ≤ s.eng.refusals then 0 else s.eng.refusals + 1)
            refused := min (s.eng.refused + 1) 65535
            skipped := min (s.eng.skipped + old.length) 65535 }
          ntc := { s.ntc with messages := s.ntc.messages ++
            (if 2 ≤ s.eng.refusals then [.raise 7 e.target.rpm] else []) } }) →
        1 ≤ (byteAt d 1).toNat → (byteAt d 1).toNat ≤ 3 →
        ∃ t, exec .engineReplyTaken s = .next t ∧ EntriesLeft v t)) ∧
    (s.eco.state = .fallback → ∃ v t timer, exec .engineReplyTaken s = .next t ∧
      Requested (computeTarget s.cfg.economy { s.eco with state := .run }) { u with eco := { s.eco with
        state := .run, target := some (computeTarget s.cfg.economy { s.eco with state := .run }) } } v ∧
      JudgedTimer v s.shp.lastRaw timer ∧ t = { v with eco := { v.eco with timer := timer } })) ∧
  (∀ s : State, EngineOk s → allocateTag s.eng ∉ queueTags s.eng ∧
    1 ≤ allocateTag s.eng ∧ allocateTag s.eng ≤ 255) ∧
  (∀ s : State, EngineOk s → ∃ k, 1 ≤ k ∧ k ≤ 5 ∧ allocateTag s.eng = (s.eng.lastTag + k - 1) % 255 + 1 ∧
    ∀ j, 1 ≤ j → j < k → (s.eng.lastTag + j - 1) % 255 + 1 ∈ queueTags s.eng)

/-- The timeout of the oldest entry: with attempt 1 it is reissued in its place under a fresh tag when it stands alone, and
removed as SKIPPED otherwise, and the entry that becomes the oldest times out within the same event when its own instant has
been reached; with attempt 2 the link fault empties the queue and enters FALLBACK; before its expiry instant nothing happens
(R144 to R146; an instant is taken as reached for half of the range of part time: log entry 7; the counts stop at 65535: log
entry 32). -/
def Obligations.OldestEntryTimesOut : Prop :=
  ∀ (s : State) (e : EngineEntry) (young : List EngineEntry), s.phase = .running → EngineOk s →
    s.eng.entries = e :: young →
    (2147483648 ≤ (s.now - e.expiry).toNat → exec .engineRequestTimeout s = .next s) ∧
    ((s.now - e.expiry).toNat < 2147483648 →
      (e.second = false → young = [] → ∃ f, IsEngineFrame s (allocateTag s.eng) e.target f ∧ allocateTag s.eng ≠ e.tag ∧
        exec .engineRequestTimeout s = .next { s with
          eng := { s.eng with
            entries := [{ e with
              tag := allocateTag s.eng, second := true, deferred := false, issued := s.now
              expiry := s.now + BitVec.ofNat 32 s.cfg.economy.replyTimeout }]
            lastTag := allocateTag s.eng
            reissued := min (s.eng.reissued + 1) 65535 }
          eco := { s.eco with lastIssued := some e.target }
          ports := { s.ports with b := offerTo s.ports.b .own f } }) ∧
      (e.second = false → young ≠ [] → ∃ t, exec .engineRequestTimeout s = .next t ∧ EntriesLeft { s with
        eng := { s.eng with entries := young, skipped := min (s.eng.skipped + 1) 65535 } } t) ∧
      (e.second = true → exec .engineRequestTimeout s = .next { s with
        eng := { s.eng with
          entries := [], pendingTarget := none, linkFault := min (s.eng.linkFault + 1) 65535, refusals := 0 }
        eco := { s.eco with state := .fallback, timer := none }
        ntc := { s.ntc with messages := s.ntc.messages ++ [.raise 4 e.target.rpm] } }))

/-- Every step keeps the engine request queue sound: no more entries than its depth, no two with one tag, a pending target
only while it is full, nothing in it in FALLBACK, the auto-idle timer in RUN alone. -/
def Obligations.EveryStepKeepsTheEngineQueueSound : Prop :=
  ∀ s t : State, EngineOk s → step s = .next t → EngineOk t

/-! ## Service reminders and counter store -/

/-- The expiry of the one-second timer advances the totals by what the signal records give, and in a running second the
checkpoint interval count, which stops at 360 until it is taken, and the reminder timers but for one that is due and has
not been taken; before its instant nothing happens (R154, R157, R158, R159; the model's choices of log entries 3, 7, 18 and
46).
An item is OK below I − W, DUE_SOON from there to I, DUE from I to I + G, and OVERDUE from I + G on (R158); the limp condition
holds by the lowest-numbered enabled item with its limp flag that is OVERDUE (R160). -/
def Obligations.SecondAdvancesTheTotals : Prop :=
  (∀ (s : State) (running high : Bool) (steps : Totals), s.phase = .running → ItemsOk s →
    (running = true ↔ usable s.sig.records.engineSpeed = true ∧ s.cfg.service.running ≤ s.sig.records.engineSpeed.value) →
    (high = true ↔
      (usable s.sig.records.pumpPress1 = true ∧ s.cfg.service.highPressure ≤ s.sig.records.pumpPress1.value) ∨
      (usable s.sig.records.pumpPress2 = true ∧ s.cfg.service.highPressure ≤ s.sig.records.pumpPress2.value)) →
    steps = {
      engineTime := flagOf running
      weightedTime := (if running then
        (if usable s.sig.records.engineLoad = false then s.cfg.service.weight2
        else if s.sig.records.engineLoad.value < 25 then s.cfg.service.weight1
        else if s.sig.records.engineLoad.value < 50 then s.cfg.service.weight2
        else if s.sig.records.engineLoad.value < 75 then s.cfg.service.weight3
        else s.cfg.service.weight4) else 0)
      highPressTime := flagOf high
      slewTravel := 0
      hardStops := 0 } →
    (2147483648 ≤ (s.now - s.svc.nextSecond).toNat → exec .oneSecondTick s = .next s) ∧
    ((s.now - s.svc.nextSecond).toNat < 2147483648 → ∃ u t, exec .oneSecondTick s = .next t ∧
      Advanced steps { s with svc := { s.svc with
        nextSecond := s.svc.nextSecond + 1000, notes := s.svc.notes.filter fun n => n.slew.isSome } } u ∧
      (running = false → t = u) ∧
      (running = true → t = { u with svc := { u.svc with
        intervalCount := min (s.svc.intervalCount + 1) 360, items := t.svc.items } } ∧
        t.svc.items.length = 32 ∧
        ∀ i, i < 32 → t.svc.item i = { u.svc.item i with
          reminder := (t.svc.item i).reminder, reminderDue := (t.svc.item i).reminderDue } ∧
          ((u.svc.item i).reminder = none → (t.svc.item i).reminder = none) ∧
          (∀ n, (u.svc.item i).reminder = some n → (u.svc.item i).reminderDue = false →
            (t.svc.item i).reminder = some (n + 1) ∧
            ((t.svc.item i).reminderDue = true ↔ s.cfg.service.reminder ≤ n + 1)) ∧
          ((u.svc.item i).reminderDue = true → t.svc.item i = u.svc.item i)))) ∧
  (∀ (d : ItemDef) (a : Nat),
    ((a : Int) < (d.interval : Int) - d.warnAhead → itemCondition d a = .ok) ∧
    ((d.interval : Int) - d.warnAhead ≤ a → a < d.interval → itemCondition d a = .dueSoon) ∧
    (d.interval ≤ a → a < d.interval + d.grace → itemCondition d a = .due) ∧
    (d.interval + d.grace ≤ a → itemCondition d a = .overdue)) ∧
  (∀ (s : State) (i : Nat), limpItem s = some i ↔
    (i < 32 ∧ (s.cfg.item i).enabled = true ∧ (s.cfg.item i).limp = true ∧ (s.svc.item i).condition = .overdue ∧
      ∀ j, j < i → ¬((s.cfg.item j).enabled = true ∧ (s.cfg.item j).limp = true ∧ (s.svc.item j).condition = .overdue)))

/-- SLEW_TRAVEL is advanced by the short way between two accepted angles, at most 18000, and by nothing without a previous
value; each hard-stop report advances HARD_STOPS by 1; a reminder that is due raises the item's source again and its timer
returns to 0 (R155, R156, R159; REMINDER_EXPIRY takes a reminder that an advance has found due: log entry 18). A notification
of engine-side roles alone carries no work and is passed over (the model's choice: log entry 46). -/
def Obligations.SlewTravelHardStopsAndReminders : Prop :=
  (∀ (s : State) (a b : Int) (engine : List RoleValue) (before rest : List ServiceNote) (step : Nat),
    s.phase = .running → ItemsOk s → (∀ n ∈ before, n.slew = none) →
    s.svc.notes = before ++ ⟨some ⟨some a, b⟩, engine⟩ :: rest →
    (((b - a) % 36000 ≤ 18000 → (step : Int) = (b - a) % 36000) ∧
      (18000 < (b - a) % 36000 → (step : Int) = 36000 - (b - a) % 36000)) →
    step ≤ 18000 ∧ ∃ t, exec .slewTravelAdvance s = .next t ∧
      Advanced ⟨0, 0, 0, step, 0⟩ { s with svc := { s.svc with notes := rest } } t) ∧
  (∀ (s : State) (b : Int) (engine : List RoleValue) (before rest : List ServiceNote), s.phase = .running →
    (∀ n ∈ before, n.slew = none) → s.svc.notes = before ++ ⟨some ⟨none, b⟩, engine⟩ :: rest →
    exec .slewTravelAdvance s = .next { s with svc := { s.svc with notes := rest } }) ∧
  (∀ s : State, s.phase = .running → (∀ n ∈ s.svc.notes, n.slew = none) → exec .slewTravelAdvance s = .next s) ∧
  (∀ (s : State) (n : Nat), s.phase = .running → ItemsOk s → s.svc.hardStopReports = n + 1 →
    ∃ t, exec .hardStopsAdvance s = .next t ∧
      Advanced ⟨0, 0, 0, 0, 1⟩ { s with svc := { s.svc with hardStopReports := n } } t) ∧
  (∀ (s : State) (i : Fin 32), s.phase = .running → ItemsOk s →
    ((s.svc.item i).reminderDue = true → exec (.reminderExpiry i) s = .next { s with
      svc := { s.svc with items := s.svc.items.set i { s.svc.item i with reminder := some 0, reminderDue := false } }
      ntc := { s.ntc with
        messages := s.ntc.messages ++ [.raise (12 + i.val) (conditionCode (s.svc.item i).condition)] } }) ∧
    ((s.svc.item i).reminderDue = false → exec (.reminderExpiry i) s = .next s))

/-- A checkpoint request starts a write at once, becomes the pending checkpoint, or is absorbed; the events that make one;
the start of a write takes the snapshot and invalidates the area; its completion fills the area with the snapshot and a
check that makes the sum of its words 65535, and starts a pending checkpoint unless a STORE waits; an area that is all 0
fails its check (R154, R164 to R167). What histories that hold an entry add to the sum is left open (log entry 10). That a request is absorbed by a checkpoint that is about to start
is the model's choice (log entry 11), as is that a command with nothing to do leaves the state as it is (log entry 3). -/
def Obligations.CheckpointsAreRequestedWrittenAndAbsorbed : Prop :=
  (∀ v : StoreUnit,
    (v.checkpointDue = true → requestCheckpoint v = v) ∧
    (v.checkpointDue = false → v.activity = .idle → v.storeWaiting = none → v.reloadWaiting = false →
      v.checkpointPending = false → requestCheckpoint v = { v with checkpointDue := true }) ∧
    (v.checkpointDue = false →
      v.activity ≠ .idle ∨ v.storeWaiting.isSome = true ∨ v.reloadWaiting = true ∨ v.checkpointPending = true →
      requestCheckpoint v = { v with checkpointPending := true })) ∧
  (∀ s : State, s.phase = .running →
    (360 ≤ s.svc.intervalCount → exec .checkpointInterval s = .next { s with
      svc := { s.svc with intervalCount := 0 }, sto := requestCheckpoint s.sto }) ∧
    (s.svc.intervalCount < 360 → exec .checkpointInterval s = .next s)) ∧
  (∀ (s : State) (level : Bool), s.phase = .running ∨ s.phase = .startUp →
    (level = true ∧ s.pwrWarn = false → exec (.pwrWarnAsserted level) s = .next { s with
      pwrWarn := true, sto := requestCheckpoint s.sto }) ∧
    (level = false ∨ s.pwrWarn = true → exec (.pwrWarnAsserted level) s = .next { s with pwrWarn := level })) ∧
  (∀ s : State, s.phase = .running → s.sto.checkpointDue = true → s.sto.activity = .idle →
    exec .checkpointStart s = .next { s with sto := { s.sto with
      activity := .writingCounters {
        totals := s.svc.totals, accumulators := s.svc.items.map (fun x => x.accumulator)
        services := s.svc.items.map (fun x => x.services), history := s.svc.history, faults := s.lim.history }
      checkpointDue := false, checkpointPending := false, counterArea := none } }) ∧
  (∀ (s : State) (c : CounterImage), s.phase = .running → s.sto.activity = .writingCounters c →
    exec .checkpointComplete s = .next { s with sto := { s.sto with
      activity := .idle, counterArea := some ⟨c, counterCheck c⟩, checkpointCount := (s.sto.checkpointCount + 1) % 65536
      lastCheckpoint := some s.now
      checkpointDue := s.sto.checkpointDue || (s.sto.checkpointPending && s.sto.storeWaiting.isNone) } }) ∧
  (∀ c : CounterImage, counterSum c + counterCheck c = 65535 ∧
    ∃ h : Half, ∀ totals accumulators services, counterSum { c with
      totals := totals, accumulators := accumulators, services := services } = h +
        ((accumulators ++ [totals.engineTime, totals.weightedTime, totals.highPressTime, totals.slewTravel,
          totals.hardStops]).map fun n => halfOf (n / 65536) + halfOf n).sum + (services.map halfOf).sum) ∧
  (∀ (v : StoreUnit) (c : CounterImage), v.counterArea = some ⟨c, 0⟩ → c.totals = ⟨0, 0, 0, 0, 0⟩ →
    (∀ n ∈ c.accumulators, n = 0) → (∀ n ∈ c.services, n = 0) → c.history = [] → c.faults = [] →
    counterSum c = 0 ∧ goodCounters v = none)

/-- SERVICE_DONE is refused in the order LOCKED, BAD_INDEX, NOT_ALLOWED; accepted, it appends to the service history, sets the
accumulator of the item to 0, counts the service, stops the reminder, has the pending flag of the item's source cleared,
judges the limp condition and requests a checkpoint; no other item changes (R162, R163, R179, R184). That raises of the
item's source which the notice unit has not yet taken are withdrawn with it is the model's choice (log entry 20). -/
def Obligations.ServiceDoneRestartsTheItem : Prop :=
  ∀ (s s1 : State) (m : ManagementFrame) (me : Bool) (i : Nat), RequestInHand s m 9 → s.mgt.progress = none →
    i = (byteAt m.data 2).toNat → s1 = { s.finishManagement with maintEn := me } →
    (me = false → exec (.serviceDone me) s = .next (answer m .locked [] s1)) ∧
    (me = true → 32 ≤ i → exec (.serviceDone me) s = .next (answer m .badIndex [] s1)) ∧
    (me = true → i < 32 → (s.cfg.item i).enabled = false →
      exec (.serviceDone me) s = .next (answer m .notAllowed [] s1)) ∧
    (me = true → i < 32 → (s.cfg.item i).enabled = true → ItemsOk s → TablesOk s.cfg →
      ∃ t, exec (.serviceDone me) s = .next (answer m .ok [] t) ∧
        t = { s1 with svc := t.svc, eco := t.eco, ntc := t.ntc, sto := requestCheckpoint s.sto } ∧
        t.svc = { s.svc with
          items := s.svc.items.set i {
            accumulator := 0, services := ((s.svc.item i).services + 1) % 65536, condition := .ok, reminder := none
            reminderDue := false }
          history := s.svc.history.drop (s.svc.history.length - 15) ++
            [⟨i, (s.cfg.item i).code, (s.svc.item i).accumulator, s.svc.totals.engineTime, s.now⟩]
          limpHolds := t.svc.limpHolds } ∧
        LimpTold s t ∧
        t.ntc = { s.ntc with
          sources := s.ntc.sources.set (12 + i) { s.ntc.source (12 + i) with
            pending := false, argument := (t.ntc.source (12 + i)).argument }
          messages := s.ntc.messages.filter fun x => match x with | .raise k _ => decide (k ≠ 12 + i) } ∧
        ((∀ a, .raise (12 + i) a ∉ s.ntc.messages) →
          (t.ntc.source (12 + i)).argument = (s.ntc.source (12 + i)).argument))

/-- Between one full reset and the next an accumulator decreases only at a SERVICE_DONE for its item. -/
def Obligations.AccumulatorsFallOnlyAtServiceDone : Prop :=
  ∀ (c : Instr) (s t : State) (i : Nat), HistoriesOk s → s.phase = .running → (∀ w, c ≠ .fullReset w) →
    c ≠ .resetAsserted → i < 32 → exec c s = .next t → (t.svc.item i).accumulator < (s.svc.item i).accumulator →
    ∃ m, RequestInHand s m 9 ∧ c = .serviceDone true ∧ (byteAt m.data 2).toNat = i ∧ (t.svc.item i).accumulator = 0

/-! ## Notices -/

/-- A raise sets the pending flag and the argument, and acts on the slot: the posting check on an empty slot, preemption of a
maskable notice by a non-maskable source, and nothing otherwise (R172, R173, R175, R176). -/
def Obligations.RaiseActsOnTheSlot : Prop :=
  ∀ (s u : State) (k a : Nat) (rest : List NoticeMessage), s.phase = .running → NoticeOk s → k < 44 →
    s.ntc.messages = .raise k a :: rest →
    u = { s with ntc := { s.ntc with
      messages := rest, sources := s.ntc.sources.set k { s.ntc.source k with pending := true, argument := a } } } →
    (s.ntc.slot = none → ∃ t, exec .noticeRaise s = .next t ∧ PostingChecked u t) ∧
    (∀ n, s.ntc.slot = some n →
      (4 ≤ n.source ∧ k < 4 → ∃ t, exec .noticeRaise s = .next t ∧ PostingChecked { u with ntc := { u.ntc with
        sources := u.ntc.sources.set n.source { u.ntc.source n.source with pending := true, enabled := true }
        slot := none } } t) ∧
      (n.source < 4 ∨ 4 ≤ k → exec .noticeRaise s = .next u))

/-- A console frame sets mute, judges the acknowledgement, makes the posting check and refreshes the slot, or sends the empty
frame when the acknowledgement has emptied it for good (R173, R175, R177, R178); SET_NOTICE_ENABLE sets or clears the
enable of a maskable source, and posts when it sets one (R180), the notice frame being offered before the reply (model's
choice: log entry 34). -/
def Obligations.ConsoleAndEnablesGovernTheNotices : Prop :=
  (∀ (s u : State) (d : List Byte) (ack : Nat), s.phase = .running → NoticeOk s → s.ntc.inbox.inHand = some d →
    ack = (byteAt d 3).toNat →
    (ack = 255 → u = { s with ntc := { s.ntc with
      inbox := ⟨s.ntc.inbox.waiting, none⟩, mute := (byteAt d 2).getLsbD 3 } }) →
    (ack ≠ 255 → (∃ n, s.ntc.slot = some n ∧ n.source = ack) → u = { s with ntc := { s.ntc with
      inbox := ⟨s.ntc.inbox.waiting, none⟩, mute := (byteAt d 2).getLsbD 3, slot := none
      sources := s.ntc.sources.set ack { s.ntc.source ack with enabled := true } } }) →
    (ack ≠ 255 → (∀ n, s.ntc.slot = some n → n.source ≠ ack) → u = { s with ntc := { s.ntc with
      inbox := ⟨s.ntc.inbox.waiting, none⟩, mute := (byteAt d 2).getLsbD 3
      mismatches := min (s.ntc.mismatches + 1) 65535 } }) →
    ∃ t, exec .noticeConsole s = .next t ∧
      (u.ntc.slot.isSome = true → NoticeSent false u t) ∧
      (u.ntc.slot = none → (∃ k, Ready u.ntc k) → PostingChecked u t) ∧
      (u.ntc.slot = none → (∀ k, ¬Ready u.ntc k) → s.ntc.slot.isSome = true → NoticeSent false u t) ∧
      (u.ntc.slot = none → (∀ k, ¬Ready u.ntc k) → s.ntc.slot = none → t = u)) ∧
  (∀ (s s1 : State) (m : ManagementFrame) (k : Nat), RequestInHand s m 15 → s.mgt.progress = none → NoticeOk s →
    k = (byteAt m.data 2).toNat → s1 = s.finishManagement →
    (44 ≤ k → exec .setNoticeEnable s = .next (answer m .badIndex [] s1)) ∧
    (k < 4 → exec .setNoticeEnable s = .next (answer m .notAllowed [] s1)) ∧
    (4 ≤ k → k < 44 →
      (2 ≤ (byteAt m.data 3).toNat → exec .setNoticeEnable s = .next (answer m .badValue [] s1)) ∧
      (byteAt m.data 3 = 0 → exec .setNoticeEnable s = .next (answer m .ok [] { s1 with ntc := { s.ntc with
        sources := s.ntc.sources.set k { s.ntc.source k with enabled := false } } })) ∧
      (byteAt m.data 3 = 1 → ∃ u t, exec .setNoticeEnable s = .next (answer m .ok [] t) ∧
        u = { s1 with ntc := { s.ntc with
          sources := s.ntc.sources.set k { s.ntc.source k with enabled := true } } } ∧
        (s.ntc.slot = none → PostingChecked u t) ∧ (s.ntc.slot.isSome = true → t = u))))

/-- Every step keeps each service item's state the one that its accumulator and definition give, its reminder timer running
exactly while it is enabled and DUE or OVERDUE, and the limp condition as judged; and it keeps the slot from being empty
while a source is pending and eligible. -/
def Obligations.EveryStepKeepsItemsJudgedAndTheSlotFilled : Prop :=
  (∀ s t : State, ItemsOk s → step s = .next t → ItemsOk t) ∧ ∀ s t : State, NoticeOk s → step s = .next t → NoticeOk t

/-! ## Management -/

/-- A reply carries the code plus 128, the sequence number, the status and five result bytes; a short frame is counted and not
answered; an unknown code is answered BAD_CODE; and while a request is in progress every request but the reads and CANCEL
is answered BUSY and changes nothing else (R183, R184, R185, section 12.3). -/
def Obligations.RequestsAreCheckedAndAnswered : Prop :=
  (∀ (s : State) (m : ManagementFrame) (x : Status) (r : List Byte), ∃ f : Frame,
    answer m x r s = { s with ports := s.ports.set m.port (offerTo (s.ports.get m.port) .own f) } ∧
    f.ident = s.cfg.identity.reply ∧ f.data.length = 8 ∧ byteAt f.data 0 = byteAt m.data 0 ||| 128 ∧
    byteAt f.data 1 = byteAt m.data 1 ∧ byteAt f.data 2 = byteOf (statusCode x) ∧
    ∀ i, i < 5 → byteAt f.data (3 + i) = r.getD i 0) ∧
  (∀ (s : State) (m : ManagementFrame), s.phase = .running → s.mgt.inbox.inHand = some m →
    (m.data.length < 8 → exec .shortFrame s = .next { s with mgt := { s.mgt with
      inbox := ⟨s.mgt.inbox.waiting, none⟩, shortFrames := min (s.mgt.shortFrames + 1) 65535 } }) ∧
    (8 ≤ m.data.length → exec .shortFrame s = .next s)) ∧
  (∀ (s : State) (m : ManagementFrame) (code : Nat), RequestInHand s m code → code = 0 ∨ 15 < code →
    exec .unknownRequest s = .next (answer m .badCode [] s.finishManagement)) ∧
  (∀ (s : State) (m : ManagementFrame) (me : Bool) (x : Instr × Nat × Bool), s.mgt.progress.isSome = true →
    x ∈ [(.writeField me, 3, true), (.copyBank, 4, false), (.activateBank, 5, false), (.store me, 7, true),
      (.reload me, 8, true), (.serviceDone me, 9, true), (.faultRelease me, 10, true), (.clearStats, 14, false),
      (.setNoticeEnable, 15, false)] → RequestInHand s m x.2.1 →
    exec x.1 s = .next (answer m .busy [] { s.finishManagement with maintEn := (if x.2.2 then me else s.maintEn) })) ∧
  (∀ (i : CanId) (code sequence : Byte) (x : Status) (r : List Byte) (f : Frame), f = replyFrame i code sequence x r →
    f.ident = i ∧ f.data.length = 8 ∧ byteAt f.data 0 = code ||| 128 ∧ byteAt f.data 1 = sequence ∧
    byteAt f.data 2 = byteOf (statusCode x) ∧ ∀ j, j < 5 → byteAt f.data (3 + j) = r.getD j 0)

/-- The reads answer with the parts of section 12.3 and 12.4 as they stand, or with BAD_TABLE or BAD_INDEX, and change nothing
but the transmit queue of the reply (R119, R163, R186, R189); CLEAR_STATS sets to 0 the statistics of both ports and the
counts that are cleared with them, and changes nothing else (R189). Every field of every table, the state read under it
included, stands at its index of section 12.5 (R38, R56, R72, R100, R138, R152, R165, R181), with the codes of sections 12.1
and 12.3; absent values read as R196 has it, 0 where no marker is given (log entry 17). BAD_INDEX to a part of the limiter status above 2 is the
model's choice (log entry 37), as is BAD_INDEX to an unknown bank selector (log entry 24). -/
def Obligations.ReadsReturnWhatStandsAndClearStatsClears : Prop :=
  (∀ (s s1 : State) (m : ManagementFrame) (n part : Nat), s1 = s.finishManagement → n = (byteAt m.data 2).toNat →
    part = (byteAt m.data 3).toNat →
    (RequestInHand s m 1 →
      (n = 0 → exec .identify s = .next (answer m .ok [0x7E, 0x05, 3, byteOf (bankCode s.cfg.active),
        byteOf (flagOf s.mgt.defaultsInUse + 2 * flagOf s.mgt.modified)] s1)) ∧
      (n = 1 → exec .identify s = .next (answer m .ok (halfBytes s.mgt.check) s1)) ∧
      (2 ≤ n → exec .identify s = .next (answer m .badIndex [] s1))) ∧
    (RequestInHand s m 2 →
      (tableOf n = none → exec .readField s = .next (answer m .badTable [] s1)) ∧
      (∀ t, tableOf n = some t →
        (∀ x v, selectorFor t (byteAt m.data 5).toNat = some x → fieldValue s t x part (byteAt m.data 4).toNat = some v →
          exec .readField s = .next (answer m .ok [hiByte v, loByte v] s1)) ∧
        (∀ x, selectorFor t (byteAt m.data 5).toNat = some x → fieldValue s t x part (byteAt m.data 4).toNat = none →
          exec .readField s = .next (answer m .badIndex [] s1)) ∧
        (selectorFor t (byteAt m.data 5).toNat = none → exec .readField s = .next (answer m .badIndex [] s1)))) ∧
    (RequestInHand s m 11 →
      (∀ f, (n < 16 ∧ n < s.lim.history.length ∧ s.lim.history[s.lim.history.length - 1 - n]? = some f) ∨
          (n = 16 ∧ s.lim.openRecord = some f) ∨ (n = 17 ∧ s.lim.secondRecord = some f) →
        (part = 0 → exec .readFault s = .next (answer m .ok [byteOf f.tag, byteOf (faultCode f.kind),
          byteOf ((f.role.map roleCode).getD 255), byteOf (f.entry.getD 255), byteOf (limiterCode f.stateBefore)] s1)) ∧
        (part = 1 → exec .readFault s = .next (answer m .ok ([byteOf f.tag] ++ wordBytes f.time.toNat) s1)) ∧
        (part = 2 → exec .readFault s = .next (answer m .ok
          ([byteOf f.tag] ++ halfBytes (BitVec.ofInt 16 f.r) ++ halfBytes (BitVec.ofInt 16 f.h)) s1)) ∧
        (part = 3 → exec .readFault s = .next (answer m .ok ([byteOf f.tag] ++ halfBytes (BitVec.ofInt 16 f.psi) ++
          [byteOf (flagOf f.valid), byteOf (closeCode f.closed)]) s1)) ∧
        (part = 4 → exec .readFault s = .next (answer m .ok ([byteOf f.tag] ++ halfBytes (halfOf f.repeats)) s1)) ∧
        (5 ≤ part → exec .readFault s = .next (answer m .badIndex [] s1))) ∧
      ((n < 16 ∧ s.lim.history.length ≤ n) ∨ (n = 16 ∧ s.lim.openRecord = none) ∨
          (n = 17 ∧ s.lim.secondRecord = none) ∨ 18 < n → exec .readFault s = .next (answer m .badIndex [] s1)) ∧
      (n = 18 →
        (part = 0 → exec .readFault s = .next (answer m .ok [byteOf (limiterCode s.lim.state),
          byteOf ((s.lim.openRecord.map fun f => f.tag).getD 0), byteOf ((s.lim.secondRecord.map fun f => f.tag).getD 0),
          byteOf s.lim.history.length, byteOf s.lim.lastTag] s1)) ∧
        (part = 1 → exec .readFault s =
          .next (answer m .ok (halfBytes (halfOf s.lim.ackEarly) ++ halfBytes (halfOf s.lim.ackMismatch)) s1)) ∧
        (part = 2 → exec .readFault s = .next (answer m .ok (halfBytes (halfOf s.lim.faultInHold)) s1)) ∧
        (3 ≤ part → exec .readFault s = .next (answer m .badIndex [] s1)))) ∧
    (RequestInHand s m 12 →
      (∀ e, n < s.svc.history.length → s.svc.history[s.svc.history.length - 1 - n]? = some e →
        (part = 0 → exec .readServiceHistory s = .next (answer m .ok ([byteOf e.item] ++ halfBytes (halfOf e.code)) s1)) ∧
        (part = 1 → exec .readServiceHistory s =
          .next (answer m .ok (wordBytes e.accumulator ++ [byteOf e.item]) s1)) ∧
        (part = 2 → exec .readServiceHistory s =
          .next (answer m .ok (wordBytes e.engineTime ++ [byteOf e.item]) s1)) ∧
        (part = 3 → exec .readServiceHistory s =
          .next (answer m .ok (wordBytes e.time.toNat ++ [byteOf e.item]) s1)) ∧
        (4 ≤ part → exec .readServiceHistory s = .next (answer m .badIndex [] s1))) ∧
      (s.svc.history.length ≤ n → exec .readServiceHistory s = .next (answer m .badIndex [] s1))) ∧
    (RequestInHand s m 13 →
      (∀ p, n = portCode p → part = 0 → exec .readStats s = .next (answer m .ok
        (halfBytes (halfOf (s.ports.get p).stats.rxOverflow) ++ halfBytes (halfOf (s.ports.get p).stats.malformed)) s1)) ∧
      (∀ p, n = portCode p → part = 1 → exec .readStats s = .next (answer m .ok
        (halfBytes (halfOf (s.ports.get p).stats.checkErr) ++ halfBytes (halfOf (s.ports.get p).stats.repeats)) s1)) ∧
      (∀ p, n = portCode p → part = 2 → exec .readStats s = .next (answer m .ok
        (halfBytes (halfOf (s.ports.get p).stats.seqGap) ++ halfBytes (halfOf (s.ports.get p).stats.coalesced)) s1)) ∧
      (∀ p, n = portCode p → part = 3 → exec .readStats s = .next (answer m .ok
        (halfBytes (halfOf (s.ports.get p).stats.txDrop) ++ halfBytes (halfOf (s.ports.get p).stats.busOff)) s1)) ∧
      (2 ≤ n ∨ 4 ≤ part → exec .readStats s = .next (answer m .badIndex [] s1)))) ∧
  (∀ (s : State) (m : ManagementFrame), RequestInHand s m 14 → s.mgt.progress = none →
    ∃ t, exec .clearStats s = .next (answer m .ok [] t) ∧ t = { s.finishManagement with
        ports := {
          a := { s.ports.a with stats := ⟨0, 0, 0, 0, 0, 0, 0, 0⟩ }
          b := { s.ports.b with stats := ⟨0, 0, 0, 0, 0, 0, 0, 0⟩ } }
        fwd := { s.fwd with screening := s.fwd.screening.map fun x => { x with checkErrors := 0 } }
        sig := { s.sig with records := t.sig.records }
        shp := { s.shp with clampCount := 0 }
        lim := { s.lim with ackEarly := 0, ackMismatch := 0, faultInHold := 0 }
        eco := { s.eco with dialClamps := 0 }
        eng := { s.eng with skipped := 0, stray := 0, refused := 0, reissued := 0, linkFault := 0 }
        ntc := { s.ntc with mismatches := 0 }
        mgt := { s.mgt with shortFrames := 0, inbox := ⟨s.mgt.inbox.waiting, none⟩ } } ∧
      ∀ r, t.sig.records.get r = { s.sig.records.get r with outOfRange := 0 }) ∧
  (∀ s : State, FieldsReadAsTheyStand s) ∧ CodesAreThoseOfChapter12

/-- WRITE_FIELD is checked in the order BAD_TABLE, LOCKED, BAD_INDEX, NOT_ALLOWED, BAD_VALUE (R184). A high half is only
held; a low half forms the value with the half held for it (R161, R187). A value in its range that no rule refuses is
written, reads back, sets the modified flag, drops the held half and leaves every other field of the tables, but for the
high half written with it; what follows is done (R12, R33, R40, R121, R150, R158, R161). Any other value is BAD_VALUE and
changes no table. Which values are accepted is said for every field, by its range or by the rule that joins it to others
(R8, R24, R70, R121, R122, R161, R188), and which fields are high and low halves (section 12.5). BAD_INDEX to an unknown bank selector is the model's choice (log entry 24); that a
held half sets no flag and drops what it replaces is inferred (log entry 23); which refused writes use a half up is the
model's choice (log entry 30). It is inferred
that R8, R70 and R122 are judged on the written field (log entry 28), how the valid limits of a role are read as signed
(log entry 17), and that an instant is taken as reached for half of the range of part time (log entry 7). After a write of
the queue depth it is the model's choice that the counts stop at 65535 (log entry 32) and that a pending target stays while the
queue is full (log entry 33); after it, and after one of the auto-idle delay whose expiry occurs at the write (R121), that a
request frame is offered before the reply (log entry 42). -/
def Obligations.WriteFieldIsCheckedAndReadsBack : Prop :=
  (∀ (s s1 : State) (m : ManagementFrame) (me : Bool) (index field : Nat), RequestInHand s m 3 → s.mgt.progress = none →
    s1 = { s.finishManagement with maintEn := me } → index = (byteAt m.data 3).toNat → field = (byteAt m.data 4).toNat →
    (tableOf (byteAt m.data 2).toNat = none → exec (.writeField me) s = .next (answer m .badTable [] s1)) ∧
    (∀ t, tableOf (byteAt m.data 2).toNat = some t →
      (isShadow t = false → me = false → exec (.writeField me) s = .next (answer m .locked [] s1)) ∧
      (isShadow t = true ∨ me = true →
        (selectorFor t (byteAt m.data 5).toNat = none → exec (.writeField me) s = .next (answer m .badIndex [] s1)) ∧
        (∀ x, selectorFor t (byteAt m.data 5).toNat = some x →
          (fieldValue s t x index field = none → exec (.writeField me) s = .next (answer m .badIndex [] s1)) ∧
          (∀ v0, fieldValue s t x index field = some v0 →
            (readOnly s t x index field = true ∨ (isShadow t = true ∧ x = .active) ∨
                (isShadow t = false ∧ engineRunning s = true) →
              exec (.writeField me) s = .next (answer m .notAllowed [] s1)) ∧
            (readOnly s t x index field = false → (isShadow t = true ∧ x = .shadow) ∨
                (isShadow t = false ∧ engineRunning s = false) →
              (isHigh t index field = true →
                (t = .service → exec (.writeField me) s = .next (answer m .ok [] { s1 with
                  mgt := { s1.mgt with heldHigh := none }
                  svc := { s1.svc with heldHigh := some ⟨index - 1, field, halfAt m.data 6⟩ } })) ∧
                (t ≠ .service → exec (.writeField me) s = .next (answer m .ok [] { s1 with
                  mgt := { s1.mgt with heldHigh := some ⟨tableCode t, index, field, halfAt m.data 6⟩ } }))) ∧
              (isHigh t index field = false → ∀ half, HeldFor s t index field half →
                (written t index field half (halfAt m.data 6) s.cfg = none →
                  ∃ u, exec (.writeField me) s = .next (answer m .badValue [] u) ∧
                    u = { s1 with mgt := { s1.mgt with heldHigh := u.mgt.heldHigh }
                                  svc := { s1.svc with heldHigh := u.svc.heldHigh } } ∧
                    (t = .service → isLow t index field = true → u.svc.heldHigh = none) ∧
                    (isLow t index field = false → u = s1)) ∧
                (∀ c, written t index field half (halfAt m.data 6) s.cfg = some c →
                  ∃ u, exec (.writeField me) s = .next (answer m .ok [] u) ∧
                    WriteFollowed t index field s.cfg { s1 with
                      cfg := c
                      mgt := { s1.mgt with modified := true, heldHigh := none }
                      svc := { s1.svc with heldHigh := (if t = .service then none else s.svc.heldHigh) } } u ∧
                    (TablesOk s.cfg → fieldValue u t x index field = some (halfAt m.data 6) ∧
                      u.cfg.active = s.cfg.active ∧ u.cfg.activeBank = s.cfg.activeBank ∧
                      ∀ t' x' i' f' w, (t', i', f') ≠ (t, index, field) → ¬(t' = t ∧ i' = index ∧ f' + 1 = field ∧
                          isHigh t i' f' = true) → readOnly s t' x' i' f' = false → fieldValue s t' x' i' f' = some w →
                        fieldValue u t' x' i' f' = some w))))))))) ∧
  (∀ (c : Tables) (t : Table) (index field : Nat) (half v : Half) (n wide : Nat), TablesOk c → n = v.toNat →
    wide = 65536 * half.toNat + n →
    (∀ r ∈ plainRanges, r.table = t → r.first ≤ field → field ≤ r.last → (r.record = true → index = 0) →
      (t = .service → r.record = false → 1 ≤ index) → (t = .signal → index < 9) →
      ((written t index field half v c).isSome = true ↔
        (r.signed = true → r.low ≤ v.toInt ∧ v.toInt ≤ r.high) ∧ (r.signed = false → r.low ≤ n ∧ n ≤ r.high))) ∧
    RuledWrite c t index field wide n v ((written t index field half v c).isSome = true)) ∧
  (∀ (t : Table) (index field n : Nat),
    (isHigh t index field = true ↔ ((t = .frame ∧ (field = 1 ∨ field = 3)) ∨
      (t = .service ∧ 1 ≤ index ∧ (field = 3 ∨ field = 5 ∨ field = 7)) ∨
      (t = .identity ∧ index = 0 ∧ (field = 0 ∨ field = 2 ∨ field = 4 ∨ field = 6 ∨ field = 8)))) ∧
    (isLow t index field = true ↔ ∃ high, field = high + 1 ∧ isHigh t index high = true) ∧
    (isShadow t = true ↔ t = .envelope ∨ t = .profile ∨ t = .header) ∧
    (isShadow t = true → selectorFor t n = (if n = 0 then some .active else if n = 1 then some .shadow else none)) ∧
    (isShadow t = false → selectorFor t n = some .active)) ∧
  (∀ s : State, engineRunning s = true ↔
    (usable s.sig.records.engineSpeed = true ∧ s.cfg.service.running ≤ s.sig.records.engineSpeed.value)) ∧
  (∀ (r : Role) (v : Half), roleRanges[roleCode r]? = some (roleMin r, roleMax r) ∧
    limitFrom r v = (if roleMin r < 0 then v.toInt else (v.toNat : Int)))

/-! ## The configuration and counter areas -/

/-- STORE takes a snapshot of the configuration image and is in progress until its write completes, when the area holds the
image with a check that makes the sum of its words 65535, and STORE is answered OK; RELOAD waits for the writes; neither is
accepted without MAINT_EN (R190, R193; a start that is not possible leaves the state as it is: log entry 3). The sum of an
image that is not all 0 is left open (log entry 6). -/
def Obligations.StoreAndReloadRunToTheirEnd : Prop :=
  (∀ (s s1 : State) (m : ManagementFrame) (me : Bool), s.mgt.progress = none →
    s1 = { s.finishManagement with maintEn := me } →
    (RequestInHand s m 7 → me = false → exec (.store me) s = .next (answer m .locked [] s1)) ∧
    (RequestInHand s m 7 → me = true → exec (.store me) s = .next { s1 with
      sto := { s.sto with storeWaiting := some (imageOf s.cfg) }
      mgt := { s1.mgt with progress := some ⟨.store, m.port, byteAt m.data 1⟩ } }) ∧
    (RequestInHand s m 8 → me = false → exec (.reload me) s = .next (answer m .locked [] s1)) ∧
    (RequestInHand s m 8 → me = true → s.lim.state ≠ .hold → exec (.reload me) s = .next { s1 with
      sto := { s.sto with reloadWaiting := true }
      mgt := { s1.mgt with progress := some ⟨.reload, m.port, byteAt m.data 1⟩ } })) ∧
  (∀ (s : State) (x : ConfigImage), s.phase = .running → s.sto.storeWaiting = some x →
    (s.sto.activity = .idle → s.sto.checkpointDue = false → exec .storeWriteStart s = .next { s with
      sto := { s.sto with activity := .writingConfig x, storeWaiting := none, configArea := none } }) ∧
    (s.sto.activity ≠ .idle ∨ s.sto.checkpointDue = true → exec .storeWriteStart s = .next s)) ∧
  (∀ (s : State) (x : ConfigImage) (p : InProgress), s.phase = .running → s.sto.activity = .writingConfig x →
    s.mgt.progress = some p → s.sto.storeWaiting = none → exec .storeComplete s = .next { s with
      sto := { s.sto with
        activity := .idle, configArea := some ⟨x, imageCheck x⟩, checkpointDue := s.sto.checkpointDue || s.sto.checkpointPending }
      mgt := { s.mgt with progress := none, check := imageCheck x, modified := false }
      ports := s.ports.set p.port (offerTo (s.ports.get p.port) .own
        (replyFrame s.cfg.identity.reply 7 p.sequence .ok [])) }) ∧
  (∀ s : State, s.phase = .running → s.sto.reloadWaiting = true →
    (s.sto.activity = .idle → s.sto.checkpointDue = false → exec .reloadReadStart s = .next { s with
      sto := { s.sto with activity := .readingConfig, reloadWaiting := false } }) ∧
    (s.sto.activity ≠ .idle ∨ s.sto.checkpointDue = true → exec .reloadReadStart s = .next s)) ∧
  (∀ x : ConfigImage, imageSum x + imageCheck x = 65535 ∧ ((∀ f ∈ imageFields x, f = 0) → imageSum x = 0))

/-- The end of the read of a RELOAD: BAD_VALUE or NOT_ALLOWED with nothing applied, or the image applied as one operation and
RELOAD answered OK (R193, R194); a frame that is held back keeps the signal table of before (R7), and no position record
handed on before is left to end STARTUP (R116; log entry 38). Every item is judged against its new definition, a disabled one
counting as having been OK, and then the limp condition (R160, R170; that every timer of an item that was DUE or OVERDUE is
kept is log entry 29). That a GEOMETRY_INVALID report is taken within it is the model's choice (log entry 19). -/
def Obligations.ReloadAppliesTheImageOrNothing : Prop :=
  ∀ (s : State) (p : InProgress), s.phase = .running → s.sto.activity = .readingConfig → s.mgt.progress = some p →
    ∃ t, exec .reloadReadEnd s = .next t ∧ t.mgt.progress = none ∧ t.sto.activity = .idle ∧
      (∀ failed : Bool, (failed = false ↔
          ∃ a, s.sto.configArea = some a ∧ imageSum a.image + a.check = 65535) →
        failed = true ∨ s.lim.state = .hold → t = { s with
        sto := { s.sto with
          activity := .idle
          checkpointDue := s.sto.checkpointDue || (s.sto.checkpointPending && s.sto.storeWaiting.isNone) }
        mgt := { s.mgt with progress := none }
        ports := s.ports.set p.port (offerTo (s.ports.get p.port) .own (replyFrame s.cfg.identity.reply 8 p.sequence
          (if failed then .badValue else .notAllowed) [])) }) ∧
      (∀ c check, s.sto.configArea = some ⟨c, check⟩ → imageSum c + check = 65535 →
        s.lim.state ≠ .hold → s.env.activation = none →
        t.cfg = loadTables c ∧ t.mgt = { s.mgt with
          progress := none, check := check, defaultsInUse := false, modified := false, heldHigh := none } ∧
        t.fwd = { s.fwd with screening := List.replicate 64 ⟨none, 0⟩, held := t.fwd.held } ∧
        (∀ i f onward, s.fwd.held = some (.signal none i f onward) →
          t.fwd.held = some (.signal (some s.cfg.signal) i f onward)) ∧
        ((∀ i f onward, s.fwd.held ≠ some (.signal none i f onward)) → t.fwd.held = s.fwd.held) ∧
        (∀ q, .position q ∉ t.lim.events ∧
          ∀ y, t.env.inbox.inHand = some y ∨ t.env.inbox.waiting = some y → .position q ∉ y.forLimiter) ∧ t.sig.windows = List.replicate 64 [] ∧
        (∀ r, t.sig.records.get r = { value := 0, state := .absent, accepted := none, outOfRange := 0 }) ∧
        t.pos.record = { s.pos.record with valid := false } ∧ t.eng.entries = [] ∧ t.eng.pendingTarget = none ∧
        t.eng.lastTag = s.eng.lastTag ∧ t.eco.state = .run ∧ t.eco.timer = none ∧ t.eco.lastSlew = none ∧
        t.eco.target = none ∧ t.eco.lastIssued = none ∧ t.eco.dial = s.eco.dial ∧ t.eco.limp = s.eco.limp ∧
        (∀ d, dirGet t.shp.heldGains d = min (dirGet s.shp.heldGains d) (loadTables c).activeBank.header.creep) ∧
        (geometryValid (loadTables c).geometry = true → t.lim.state = .startup ∧ t.lim.startupSince = some s.now ∧
          t.lim.openRecord = none ∧ t.lim.lastTag = s.lim.lastTag) ∧
        (geometryValid (loadTables c).geometry = false → t.lim.state = .restricted ∧
          t.lim.openRecord.map (fun f => f.kind) = some .geometryInvalid) ∧
        t.svc.totals = s.svc.totals ∧ t.svc.history = s.svc.history ∧ t.svc.heldHigh = none ∧
        (∀ i, i < 32 → (t.svc.item i).accumulator = (s.svc.item i).accumulator ∧
          (t.svc.item i).services = (s.svc.item i).services) ∧
        (∀ before : Nat → ItemCondition, s.svc.items.length = 32 →
          (∀ i, before i = if (s.cfg.item i).enabled then (s.svc.item i).condition else .ok) →
          ItemsJudged before s t ∧ t.svc.limpHolds = (limpItem t).isSome ∧
          t.eco.limpChanges = s.eco.limpChanges ++ limpNews (limpItem t) s.svc.limpHolds ∧
          t.ntc.messages = s.ntc.messages ++ itemRaises before t ++
            (if geometryValid t.cfg.geometry then [] else [.raise 1 t.lim.lastTag])) ∧
        t.pilotCut = s.pilotCut ∧ t.sto.configArea = s.sto.configArea ∧ t.sto.counterArea = s.sto.counterArea ∧
        t.ports = s.ports.set p.port (offerTo (s.ports.get p.port) .own
          (replyFrame (loadTables c).identity.reply 8 p.sequence .ok [])))

/-- Start-up applies the configuration area, with the corrections of R191 for what lies outside its range (their order: log entry
35), or the built-in defaults, of which every field is said, of the sine table what R43 lists; it restores the counter area or its failure values, and
judges the geometry; an area passes when the sum of its words with its check is 65535 (R165, R190); a part whose areas both fail their checks, as one never written, ends in RESTRICTED with a
GEOMETRY_INVALID record of tag 1 and its raises in the order made (R168, R169, R191, R192). Every item is judged as one that
had been OK, and a limp engagement that the restore finds sets the limp cap and the target (R128, R160, R168). That the areas
after reset have never been written, and that the record is opened and the limp engagement taken within this command, with
the raises in this order, are the model's choices (log entries 1 and 19). -/
def Obligations.StartUpAppliesAndRestores : Prop :=
  (∀ s : State, s.phase = .startUp → ∃ t, exec .startUpReadsComplete s = .next t ∧ t.phase = .running ∧
    t.sto.activity = .idle ∧
    (∀ c check, s.sto.configArea = some ⟨c, check⟩ → imageSum c + check = 65535 →
      t.cfg = loadTables c ∧ TablesLoaded c t.cfg ∧ t.mgt.check = check ∧ t.mgt.defaultsInUse = false) ∧
    ((∀ c check, s.sto.configArea = some ⟨c, check⟩ → imageSum c + check ≠ 65535) → t.cfg = defaultTables ∧
      BuiltInDefaults t.cfg ∧ t.mgt.check = 0 ∧ t.mgt.defaultsInUse = true) ∧
    (∀ c check, s.sto.counterArea = some ⟨c, check⟩ → counterSum c + check = 65535 → t.svc.totals = c.totals ∧ t.svc.history = c.history ∧
      (∀ i, i < 32 → (t.svc.item i).accumulator = c.accumulators.getD i 0 ∧
        (t.svc.item i).services = c.services.getD i 0) ∧
      (s.lim.state = .startup → geometryValid t.cfg.geometry = true → t.lim.history = c.faults ∧
        t.lim.lastTag = (c.faults.getLast?.map fun f => f.tag).getD 0)) ∧
    ((∀ c check, s.sto.counterArea = some ⟨c, check⟩ → counterSum c + check ≠ 65535) → t.svc.totals = ⟨0, 0, 0, 0, 0⟩ ∧ t.svc.history = [] ∧
      (∀ i, i < 32 → (t.svc.item i).services = 0 ∧ (t.svc.item i).accumulator =
        (if (t.cfg.item i).enabled then (t.cfg.item i).interval else 0)) ∧
      (s.lim.state = .startup → geometryValid t.cfg.geometry = true → t.lim.history = [] ∧ t.lim.lastTag = 0) ∧
      (s.sto.checkpointDue = true ∨ s.sto.storeWaiting = none → t.sto.checkpointDue = true)) ∧
    ItemsJudged (fun _ => .ok) s t ∧
    (s.svc.limpHolds = false → s.eco.limpChanges = [] → s.lim.state = .startup →
      t.svc.limpHolds = (limpItem t).isSome ∧ t.eco.limpChanges = [] ∧
      (limpItem t = none → t.eco = s.eco ∧ t.eng = s.eng ∧ t.ports = s.ports) ∧
      (∀ i, limpItem t = some i → ∃ v, Settled true { s with cfg := t.cfg, eco := { s.eco with limp := true } } v ∧
        t.eco = v.eco ∧ t.eng = v.eng ∧ t.ports = v.ports) ∧
      (∀ config counters : Bool,
        (config = true ↔ ∃ a, s.sto.configArea = some a ∧ imageSum a.image + a.check = 65535) →
        (counters = true ↔ ∃ a, s.sto.counterArea = some a ∧ counterSum a.image + a.check = 65535) →
        t.ntc.messages = s.ntc.messages ++ (if config then [] else [.raise 3 0]) ++ itemRaises (fun _ => .ok) t ++
          (limpItem t).toList.map (fun i => .raise 5 i) ++ (if counters then [] else [.raise 6 0]) ++
          (if geometryValid t.cfg.geometry then [] else [.raise 1 t.lim.lastTag])))) ∧
  (∃ t, exec .startUpReadsComplete State.reset = .next t ∧ t.lim.state = .restricted ∧
    t.lim.openRecord = some ⟨1, .geometryInvalid, none, none, 0, 0, 0, 0, false, .startup, 0, .none⟩ ∧
    t.ntc.messages = [.raise 3 0, .raise 6 0, .raise 1 1] ∧ t.sto.checkpointDue = true) ∧
  (∀ g : Geometry, geometryValid g = true ↔
    (500 ≤ g.boom ∧ g.boom ≤ 20000 ∧ 500 ≤ g.arm ∧ g.arm ≤ 20000 ∧ 500 ≤ g.bucket ∧ g.bucket ≤ 20000 ∧ -5000 ≤ g.r0 ∧
      g.r0 ≤ 5000 ∧ 0 ≤ g.h0 ∧ g.h0 ≤ 10000))

/-- Every step keeps the request in progress the one that runs, and an area that is being written without a good check; and
keeps the histories within sixteen, the fault histories without two records of one tag, and the accumulators within 32
bits, in the blocks, in the counter area and in a snapshot being written. -/
def Obligations.EveryStepKeepsRequestsAndHistoriesSound : Prop :=
  (∀ s t : State, RequestOk s → step s = .next t → RequestOk t) ∧
    ∀ s t : State, HistoriesOk s → step s = .next t → HistoriesOk t

/-- Every step keeps every table in force within its ranges: whatever WRITE_FIELD is given, and whatever image is loaded. -/
def Obligations.EveryStepKeepsTheTablesInRange : Prop :=
  ∀ s t : State, TablesOk s.cfg → step s = .next t → TablesOk t.cfg

/-- Every image loads with the corrections of R191: a field outside its range takes its built-in default, the limp speed is
moved to the nearer end of idle to max (R121), a curve is shortened to the points that lead and ascend or replaced when they
are fewer than two (R122), an entry that breaks R8 is disabled, colliding identifiers give all five built-in ones (R188), and
the geometry and the profiles are kept as they stand (R42, R74). In which order the corrections are judged, and that a valid
max below the valid min and a warn-ahead not below the interval take their defaults, is the model's choice (log entry 35); how
valid limits are read as signed is inferred (log entry 17). An image of tables within their ranges, in which every frame table
entry that breaks R8 is disabled, loads back as the same tables. -/
def Obligations.StoredTablesLoadBack : Prop :=
  (∀ t : Tables, TablesOk t → (∀ e ∈ t.frame, entryBreaks e = true → e.enabled = false) → loadTables (imageOf t) = t) ∧
  (∀ c : ConfigImage, TablesLoaded c (loadTables c)) ∧
  (∀ e : FrameEntry, entryBreaks e = true ↔ BreaksR8 e)

end
end

