-- ==== Sys2Proof/Laws/Containers.lean ====
section
/-! SUPPORT. Reading after writing in the containers by port, role, axis and axis-direction. -/
namespace Sys2Proof.Machine

@[simp] theorem PerPort.get_set_self (v : PerPort α) (p : Port) (x : α) : (v.set p x).get p = x := by
  cases p <;> rfl

@[simp] theorem PerPort.get_set_other (v : PerPort α) (p : Port) (x : α) : (v.set p x).get (otherPort p) = v.get (otherPort p) := by
  cases p <;> rfl

theorem PerPort.get_set_ne (v : PerPort α) (x : α) : p ≠ q → (v.set p x).get q = v.get q := by
  cases p <;> cases q <;> simp [PerPort.set, PerPort.get]

@[simp] theorem PerPort.set_get_self (v : PerPort α) (p : Port) : v.set p (v.get p) = v := by
  cases p <;> rfl

@[simp] theorem PerRole.get_tabulate (f : Role → α) (r : Role) : (PerRole.tabulate f).get r = f r := by
  cases r <;> rfl

theorem PerRole.get_set (v : PerRole α) (r q : Role) (x : α) : (v.set r x).get q = if q = r then x else v.get q := by
  simp [PerRole.set]

@[simp] theorem PerRole.get_set_self (v : PerRole α) (r : Role) (x : α) : (v.set r x).get r = x := by
  simp [PerRole.get_set]

/-- Two role tables that read the same are the same. -/
theorem PerRole.ext_get {v w : PerRole α} (h : ∀ r, v.get r = w.get r) : v = w := by
  cases v; cases w
  have h1 := h .boomAngle; have h2 := h .armAngle; have h3 := h .bucketAngle; have h4 := h .slewAngle; have h5 := h .slewRate
  have h6 := h .engineSpeed; have h7 := h .engineLoad; have h8 := h .pumpPress1; have h9 := h .pumpPress2
  simp only [PerRole.get] at h1 h2 h3 h4 h5 h6 h7 h8 h9
  simp only [h1, h2, h3, h4, h5, h6, h7, h8, h9]

@[simp] theorem PerAxis.get_tabulate (f : Axis → α) (x : Axis) : (PerAxis.tabulate f).get x = f x := by
  cases x <;> rfl

theorem PerAxis.get_set (v : PerAxis α) (x z : Axis) (y : α) : (v.set x y).get z = if z = x then y else v.get z := by
  simp [PerAxis.set]

theorem mem_axes (x : Axis) : x ∈ axes := by cases x <;> decide

theorem mem_roles (r : Role) : r ∈ roles := by cases r <;> decide

theorem mem_dirs (d : Dir) : d ∈ dirs := by
  obtain ⟨x, b⟩ := d
  cases x <;> cases b <;> decide

@[simp] theorem dirGet_dirTabulate (f : Dir → α) (d : Dir) : dirGet (dirTabulate f) d = f d := by
  obtain ⟨x, b⟩ := d
  cases x <;> cases b <;> rfl

@[simp] theorem dirGet_dirMap (f : α → β) (v : PerDir α) (d : Dir) : dirGet (dirMap f v) d = f (dirGet v d) := by
  simp [dirMap]

/-- The held gain of an axis-direction after a limiter transition (R89). -/
theorem dirGet_loweredGains (t : GainTransition) (creep : Nat) (g : PerDir Nat) (d : Dir) :
    dirGet (loweredGains t creep g) d =
      match t with
      | .enterRestricted => min (dirGet g d) creep
      | .enterHold => 0
      | .release => 0
      | .reload => min (dirGet g d) creep
      | .fullReset => 0 := by
  cases t <;> simp [loweredGains]

end Sys2Proof.Machine
end

