-- ==== Sys2Proof/Laws/Fields.lean ====
section
/-! SUPPORT. What the operations on fields can do: how one field of a record is loaded (R191), and how a list of fields is
read by number (section 12.5). -/
namespace Sys2Proof.Machine

theorem within_getD (low high n d : Nat) : (within low high n).getD d = keptNat low high n d := by
  unfold within keptNat; split <;> rfl

theorem withinInt_getD (low high v d : Int) : (withinInt low high v).getD d = keptInt low high v d := by
  unfold withinInt keptInt; split <;> rfl

/-- A field put on a record: the record with the value that is accepted, or with the one that stood there. -/
theorem getD_map_put {g : α → β} {o : Option α} {d : α} {x : β} (h : g d = x) : (o.map g).getD x = g (o.getD d) := by
  cases o
  · exact h.symm
  · rfl

/-- A flag as loaded: on exactly for a stored 1, when its default is off. -/
theorem flagFrom_getD (n : Nat) : (flagFrom n).getD false = decide (n = 1) := by
  unfold flagFrom; split <;> simp_all

/-- A position or offset as loaded: none for 255 and for any value outside its range. -/
theorem positionField_getD (high n : Nat) (h : high < 255) :
    (positionField high n).getD none = if n ≤ high then some n else none := by
  unfold positionField within
  split
  · simp; omega
  · simp only [Nat.zero_le, true_and]; split <;> rfl

/-- Fields that stand at one place in all the fields of a table and index read by their numbers. -/
theorem fieldsAre_of_append {s : State} {t : Table} {x : Selector} {index : Nat} {w before values after : List Half}
    (hc : configFields s t x index = some w) (h : w ++ stateFields s t x index = before ++ (values ++ after)) :
    FieldsAre s t x index before.length values := by
  intro k v hv
  have hk : k < values.length := by
    rcases Nat.lt_or_ge k values.length with g | g
    · exact g
    · rw [List.getElem?_eq_none g] at hv; cases hv
  unfold fieldValue
  rw [hc]
  show (w ++ stateFields s t x index)[before.length + k]? = some v
  rw [h, List.getElem?_append_right (by omega), show before.length + k - before.length = k by omega,
    List.getElem?_append_left hk]
  exact hv

/-- A block with a hand-off in hand and one waiting takes none (R3). -/
theorem Full.accepts {b : Inbox α} (h : Full b) : b.accepts = false := by
  obtain ⟨i, w⟩ := b
  cases i <;> cases w <;> simp_all [Full, Inbox.accepts]

/-- What a hand-off leaves at a block that is not full (R3). -/
theorem Handed.put {x : α} {b c : Inbox α} (h : ¬Full b) (hc : Handed x b c) : b.accepts = true ∧ b.put x = c := by
  obtain ⟨i, w⟩ := b
  cases i <;> cases w <;> simp_all [Full, Handed, Inbox.put, Inbox.accepts]

/-- A hand-off is made or held back (R3). -/
theorem handOver_cases (s : State) (h : HandOff) :
    (canTake s h = true ∧ handOver s h = deliver s h) ∨
      (canTake s h = false ∧ handOver s h = { s with fwd := { s.fwd with held := some h } }) := by
  unfold handOver
  cases g : canTake s h
  · exact .inr ⟨rfl, rfl⟩
  · exact .inl ⟨rfl, rfl⟩

end Sys2Proof.Machine
end

