-- ==== Sys2Proof/Laws/State.lean ====
section
/-! SUPPORT. The fields of the state after each named update: one lemma per field per update, true by definition. -/
namespace Sys2Proof.Machine

variable (s : State)

/-! `State.raise`: a raise adds a message to the notice unit's. -/

@[simp] theorem State.raise_pending (source argument : Nat) : (s.raise source argument).pending = s.pending := rfl
@[simp] theorem State.raise_phase (source argument : Nat) : (s.raise source argument).phase = s.phase := rfl
@[simp] theorem State.raise_now (source argument : Nat) : (s.raise source argument).now = s.now := rfl
@[simp] theorem State.raise_maintEn (source argument : Nat) : (s.raise source argument).maintEn = s.maintEn := rfl
@[simp] theorem State.raise_pwrWarn (source argument : Nat) : (s.raise source argument).pwrWarn = s.pwrWarn := rfl
@[simp] theorem State.raise_pilotCut (source argument : Nat) : (s.raise source argument).pilotCut = s.pilotCut := rfl
@[simp] theorem State.raise_cfg (source argument : Nat) : (s.raise source argument).cfg = s.cfg := rfl
@[simp] theorem State.raise_ports (source argument : Nat) : (s.raise source argument).ports = s.ports := rfl
@[simp] theorem State.raise_fwd (source argument : Nat) : (s.raise source argument).fwd = s.fwd := rfl
@[simp] theorem State.raise_sig (source argument : Nat) : (s.raise source argument).sig = s.sig := rfl
@[simp] theorem State.raise_pos (source argument : Nat) : (s.raise source argument).pos = s.pos := rfl
@[simp] theorem State.raise_env (source argument : Nat) : (s.raise source argument).env = s.env := rfl
@[simp] theorem State.raise_shp (source argument : Nat) : (s.raise source argument).shp = s.shp := rfl
@[simp] theorem State.raise_lim (source argument : Nat) : (s.raise source argument).lim = s.lim := rfl
@[simp] theorem State.raise_eco (source argument : Nat) : (s.raise source argument).eco = s.eco := rfl
@[simp] theorem State.raise_eng (source argument : Nat) : (s.raise source argument).eng = s.eng := rfl
@[simp] theorem State.raise_svc (source argument : Nat) : (s.raise source argument).svc = s.svc := rfl
@[simp] theorem State.raise_ntc (source argument : Nat) : (s.raise source argument).ntc = { s.ntc with messages := s.ntc.messages ++ [.raise source argument] } := rfl
@[simp] theorem State.raise_mgt (source argument : Nat) : (s.raise source argument).mgt = s.mgt := rfl
@[simp] theorem State.raise_sto (source argument : Nat) : (s.raise source argument).sto = s.sto := rfl

/-! `State.report`: a report adds an event to the supervisor's. -/

@[simp] theorem State.report_pending (r : FaultReport) : (s.report r).pending = s.pending := rfl
@[simp] theorem State.report_phase (r : FaultReport) : (s.report r).phase = s.phase := rfl
@[simp] theorem State.report_now (r : FaultReport) : (s.report r).now = s.now := rfl
@[simp] theorem State.report_maintEn (r : FaultReport) : (s.report r).maintEn = s.maintEn := rfl
@[simp] theorem State.report_pwrWarn (r : FaultReport) : (s.report r).pwrWarn = s.pwrWarn := rfl
@[simp] theorem State.report_pilotCut (r : FaultReport) : (s.report r).pilotCut = s.pilotCut := rfl
@[simp] theorem State.report_cfg (r : FaultReport) : (s.report r).cfg = s.cfg := rfl
@[simp] theorem State.report_ports (r : FaultReport) : (s.report r).ports = s.ports := rfl
@[simp] theorem State.report_fwd (r : FaultReport) : (s.report r).fwd = s.fwd := rfl
@[simp] theorem State.report_sig (r : FaultReport) : (s.report r).sig = s.sig := rfl
@[simp] theorem State.report_pos (r : FaultReport) : (s.report r).pos = s.pos := rfl
@[simp] theorem State.report_env (r : FaultReport) : (s.report r).env = s.env := rfl
@[simp] theorem State.report_shp (r : FaultReport) : (s.report r).shp = s.shp := rfl
@[simp] theorem State.report_lim (r : FaultReport) : (s.report r).lim = { s.lim with events := s.lim.events ++ [.report r] } := rfl
@[simp] theorem State.report_eco (r : FaultReport) : (s.report r).eco = s.eco := rfl
@[simp] theorem State.report_eng (r : FaultReport) : (s.report r).eng = s.eng := rfl
@[simp] theorem State.report_svc (r : FaultReport) : (s.report r).svc = s.svc := rfl
@[simp] theorem State.report_ntc (r : FaultReport) : (s.report r).ntc = s.ntc := rfl
@[simp] theorem State.report_mgt (r : FaultReport) : (s.report r).mgt = s.mgt := rfl
@[simp] theorem State.report_sto (r : FaultReport) : (s.report r).sto = s.sto := rfl

/-! `State.offer`: an offer changes one port. -/

@[simp] theorem State.offer_pending (p : Port) (o : Origin) (f : Frame) : (s.offer p o f).pending = s.pending := rfl
@[simp] theorem State.offer_phase (p : Port) (o : Origin) (f : Frame) : (s.offer p o f).phase = s.phase := rfl
@[simp] theorem State.offer_now (p : Port) (o : Origin) (f : Frame) : (s.offer p o f).now = s.now := rfl
@[simp] theorem State.offer_maintEn (p : Port) (o : Origin) (f : Frame) : (s.offer p o f).maintEn = s.maintEn := rfl
@[simp] theorem State.offer_pwrWarn (p : Port) (o : Origin) (f : Frame) : (s.offer p o f).pwrWarn = s.pwrWarn := rfl
@[simp] theorem State.offer_pilotCut (p : Port) (o : Origin) (f : Frame) : (s.offer p o f).pilotCut = s.pilotCut := rfl
@[simp] theorem State.offer_cfg (p : Port) (o : Origin) (f : Frame) : (s.offer p o f).cfg = s.cfg := rfl
@[simp] theorem State.offer_ports (p : Port) (o : Origin) (f : Frame) : (s.offer p o f).ports = s.ports.set p (offerTo (s.ports.get p) o f) := rfl
@[simp] theorem State.offer_fwd (p : Port) (o : Origin) (f : Frame) : (s.offer p o f).fwd = s.fwd := rfl
@[simp] theorem State.offer_sig (p : Port) (o : Origin) (f : Frame) : (s.offer p o f).sig = s.sig := rfl
@[simp] theorem State.offer_pos (p : Port) (o : Origin) (f : Frame) : (s.offer p o f).pos = s.pos := rfl
@[simp] theorem State.offer_env (p : Port) (o : Origin) (f : Frame) : (s.offer p o f).env = s.env := rfl
@[simp] theorem State.offer_shp (p : Port) (o : Origin) (f : Frame) : (s.offer p o f).shp = s.shp := rfl
@[simp] theorem State.offer_lim (p : Port) (o : Origin) (f : Frame) : (s.offer p o f).lim = s.lim := rfl
@[simp] theorem State.offer_eco (p : Port) (o : Origin) (f : Frame) : (s.offer p o f).eco = s.eco := rfl
@[simp] theorem State.offer_eng (p : Port) (o : Origin) (f : Frame) : (s.offer p o f).eng = s.eng := rfl
@[simp] theorem State.offer_svc (p : Port) (o : Origin) (f : Frame) : (s.offer p o f).svc = s.svc := rfl
@[simp] theorem State.offer_ntc (p : Port) (o : Origin) (f : Frame) : (s.offer p o f).ntc = s.ntc := rfl
@[simp] theorem State.offer_mgt (p : Port) (o : Origin) (f : Frame) : (s.offer p o f).mgt = s.mgt := rfl
@[simp] theorem State.offer_sto (p : Port) (o : Origin) (f : Frame) : (s.offer p o f).sto = s.sto := rfl

/-! `State.reply`: a reply is an offer. -/

@[simp] theorem State.reply_pending (p : Port) (code sequence : Byte) (x : Status) (results : List Byte) : (s.reply p code sequence x results).pending = s.pending := rfl
@[simp] theorem State.reply_phase (p : Port) (code sequence : Byte) (x : Status) (results : List Byte) : (s.reply p code sequence x results).phase = s.phase := rfl
@[simp] theorem State.reply_now (p : Port) (code sequence : Byte) (x : Status) (results : List Byte) : (s.reply p code sequence x results).now = s.now := rfl
@[simp] theorem State.reply_maintEn (p : Port) (code sequence : Byte) (x : Status) (results : List Byte) : (s.reply p code sequence x results).maintEn = s.maintEn := rfl
@[simp] theorem State.reply_pwrWarn (p : Port) (code sequence : Byte) (x : Status) (results : List Byte) : (s.reply p code sequence x results).pwrWarn = s.pwrWarn := rfl
@[simp] theorem State.reply_pilotCut (p : Port) (code sequence : Byte) (x : Status) (results : List Byte) : (s.reply p code sequence x results).pilotCut = s.pilotCut := rfl
@[simp] theorem State.reply_cfg (p : Port) (code sequence : Byte) (x : Status) (results : List Byte) : (s.reply p code sequence x results).cfg = s.cfg := rfl
@[simp] theorem State.reply_ports (p : Port) (code sequence : Byte) (x : Status) (results : List Byte) : (s.reply p code sequence x results).ports = s.ports.set p (offerTo (s.ports.get p) .own (replyFrame s.cfg.identity.reply code sequence x results)) := rfl
@[simp] theorem State.reply_fwd (p : Port) (code sequence : Byte) (x : Status) (results : List Byte) : (s.reply p code sequence x results).fwd = s.fwd := rfl
@[simp] theorem State.reply_sig (p : Port) (code sequence : Byte) (x : Status) (results : List Byte) : (s.reply p code sequence x results).sig = s.sig := rfl
@[simp] theorem State.reply_pos (p : Port) (code sequence : Byte) (x : Status) (results : List Byte) : (s.reply p code sequence x results).pos = s.pos := rfl
@[simp] theorem State.reply_env (p : Port) (code sequence : Byte) (x : Status) (results : List Byte) : (s.reply p code sequence x results).env = s.env := rfl
@[simp] theorem State.reply_shp (p : Port) (code sequence : Byte) (x : Status) (results : List Byte) : (s.reply p code sequence x results).shp = s.shp := rfl
@[simp] theorem State.reply_lim (p : Port) (code sequence : Byte) (x : Status) (results : List Byte) : (s.reply p code sequence x results).lim = s.lim := rfl
@[simp] theorem State.reply_eco (p : Port) (code sequence : Byte) (x : Status) (results : List Byte) : (s.reply p code sequence x results).eco = s.eco := rfl
@[simp] theorem State.reply_eng (p : Port) (code sequence : Byte) (x : Status) (results : List Byte) : (s.reply p code sequence x results).eng = s.eng := rfl
@[simp] theorem State.reply_svc (p : Port) (code sequence : Byte) (x : Status) (results : List Byte) : (s.reply p code sequence x results).svc = s.svc := rfl
@[simp] theorem State.reply_ntc (p : Port) (code sequence : Byte) (x : Status) (results : List Byte) : (s.reply p code sequence x results).ntc = s.ntc := rfl
@[simp] theorem State.reply_mgt (p : Port) (code sequence : Byte) (x : Status) (results : List Byte) : (s.reply p code sequence x results).mgt = s.mgt := rfl
@[simp] theorem State.reply_sto (p : Port) (code sequence : Byte) (x : Status) (results : List Byte) : (s.reply p code sequence x results).sto = s.sto := rfl

/-! `State.requestCheckpoint`: a checkpoint request changes the store controller. -/

@[simp] theorem State.requestCheckpoint_pending : (s.requestCheckpoint).pending = s.pending := rfl
@[simp] theorem State.requestCheckpoint_phase : (s.requestCheckpoint).phase = s.phase := rfl
@[simp] theorem State.requestCheckpoint_now : (s.requestCheckpoint).now = s.now := rfl
@[simp] theorem State.requestCheckpoint_maintEn : (s.requestCheckpoint).maintEn = s.maintEn := rfl
@[simp] theorem State.requestCheckpoint_pwrWarn : (s.requestCheckpoint).pwrWarn = s.pwrWarn := rfl
@[simp] theorem State.requestCheckpoint_pilotCut : (s.requestCheckpoint).pilotCut = s.pilotCut := rfl
@[simp] theorem State.requestCheckpoint_cfg : (s.requestCheckpoint).cfg = s.cfg := rfl
@[simp] theorem State.requestCheckpoint_ports : (s.requestCheckpoint).ports = s.ports := rfl
@[simp] theorem State.requestCheckpoint_fwd : (s.requestCheckpoint).fwd = s.fwd := rfl
@[simp] theorem State.requestCheckpoint_sig : (s.requestCheckpoint).sig = s.sig := rfl
@[simp] theorem State.requestCheckpoint_pos : (s.requestCheckpoint).pos = s.pos := rfl
@[simp] theorem State.requestCheckpoint_env : (s.requestCheckpoint).env = s.env := rfl
@[simp] theorem State.requestCheckpoint_shp : (s.requestCheckpoint).shp = s.shp := rfl
@[simp] theorem State.requestCheckpoint_lim : (s.requestCheckpoint).lim = s.lim := rfl
@[simp] theorem State.requestCheckpoint_eco : (s.requestCheckpoint).eco = s.eco := rfl
@[simp] theorem State.requestCheckpoint_eng : (s.requestCheckpoint).eng = s.eng := rfl
@[simp] theorem State.requestCheckpoint_svc : (s.requestCheckpoint).svc = s.svc := rfl
@[simp] theorem State.requestCheckpoint_ntc : (s.requestCheckpoint).ntc = s.ntc := rfl
@[simp] theorem State.requestCheckpoint_mgt : (s.requestCheckpoint).mgt = s.mgt := rfl
@[simp] theorem State.requestCheckpoint_sto : (s.requestCheckpoint).sto = Machine.requestCheckpoint s.sto := rfl

/-! `State.lowerGains`: a limiter transition changes the held gains. -/

@[simp] theorem State.lowerGains_pending (t : GainTransition) : (s.lowerGains t).pending = s.pending := rfl
@[simp] theorem State.lowerGains_phase (t : GainTransition) : (s.lowerGains t).phase = s.phase := rfl
@[simp] theorem State.lowerGains_now (t : GainTransition) : (s.lowerGains t).now = s.now := rfl
@[simp] theorem State.lowerGains_maintEn (t : GainTransition) : (s.lowerGains t).maintEn = s.maintEn := rfl
@[simp] theorem State.lowerGains_pwrWarn (t : GainTransition) : (s.lowerGains t).pwrWarn = s.pwrWarn := rfl
@[simp] theorem State.lowerGains_pilotCut (t : GainTransition) : (s.lowerGains t).pilotCut = s.pilotCut := rfl
@[simp] theorem State.lowerGains_cfg (t : GainTransition) : (s.lowerGains t).cfg = s.cfg := rfl
@[simp] theorem State.lowerGains_ports (t : GainTransition) : (s.lowerGains t).ports = s.ports := rfl
@[simp] theorem State.lowerGains_fwd (t : GainTransition) : (s.lowerGains t).fwd = s.fwd := rfl
@[simp] theorem State.lowerGains_sig (t : GainTransition) : (s.lowerGains t).sig = s.sig := rfl
@[simp] theorem State.lowerGains_pos (t : GainTransition) : (s.lowerGains t).pos = s.pos := rfl
@[simp] theorem State.lowerGains_env (t : GainTransition) : (s.lowerGains t).env = s.env := rfl
@[simp] theorem State.lowerGains_shp (t : GainTransition) : (s.lowerGains t).shp = { s.shp with heldGains := loweredGains t s.cfg.activeBank.header.creep s.shp.heldGains } := rfl
@[simp] theorem State.lowerGains_lim (t : GainTransition) : (s.lowerGains t).lim = s.lim := rfl
@[simp] theorem State.lowerGains_eco (t : GainTransition) : (s.lowerGains t).eco = s.eco := rfl
@[simp] theorem State.lowerGains_eng (t : GainTransition) : (s.lowerGains t).eng = s.eng := rfl
@[simp] theorem State.lowerGains_svc (t : GainTransition) : (s.lowerGains t).svc = s.svc := rfl
@[simp] theorem State.lowerGains_ntc (t : GainTransition) : (s.lowerGains t).ntc = s.ntc := rfl
@[simp] theorem State.lowerGains_mgt (t : GainTransition) : (s.lowerGains t).mgt = s.mgt := rfl
@[simp] theorem State.lowerGains_sto (t : GainTransition) : (s.lowerGains t).sto = s.sto := rfl

/-! `State.toEnvelope`: a hand-off to the envelope unit. -/

@[simp] theorem State.toEnvelope_pending (es : List LimiterEvent) : (s.toEnvelope es).pending = s.pending := rfl
@[simp] theorem State.toEnvelope_phase (es : List LimiterEvent) : (s.toEnvelope es).phase = s.phase := rfl
@[simp] theorem State.toEnvelope_now (es : List LimiterEvent) : (s.toEnvelope es).now = s.now := rfl
@[simp] theorem State.toEnvelope_maintEn (es : List LimiterEvent) : (s.toEnvelope es).maintEn = s.maintEn := rfl
@[simp] theorem State.toEnvelope_pwrWarn (es : List LimiterEvent) : (s.toEnvelope es).pwrWarn = s.pwrWarn := rfl
@[simp] theorem State.toEnvelope_pilotCut (es : List LimiterEvent) : (s.toEnvelope es).pilotCut = s.pilotCut := rfl
@[simp] theorem State.toEnvelope_cfg (es : List LimiterEvent) : (s.toEnvelope es).cfg = s.cfg := rfl
@[simp] theorem State.toEnvelope_ports (es : List LimiterEvent) : (s.toEnvelope es).ports = s.ports := rfl
@[simp] theorem State.toEnvelope_fwd (es : List LimiterEvent) : (s.toEnvelope es).fwd = s.fwd := rfl
@[simp] theorem State.toEnvelope_sig (es : List LimiterEvent) : (s.toEnvelope es).sig = s.sig := rfl
@[simp] theorem State.toEnvelope_pos (es : List LimiterEvent) : (s.toEnvelope es).pos = s.pos := rfl
@[simp] theorem State.toEnvelope_env (es : List LimiterEvent) : (s.toEnvelope es).env = { s.env with inbox := s.env.inbox.replace ⟨s.pos.record, es⟩ } := rfl
@[simp] theorem State.toEnvelope_shp (es : List LimiterEvent) : (s.toEnvelope es).shp = s.shp := rfl
@[simp] theorem State.toEnvelope_lim (es : List LimiterEvent) : (s.toEnvelope es).lim = s.lim := rfl
@[simp] theorem State.toEnvelope_eco (es : List LimiterEvent) : (s.toEnvelope es).eco = s.eco := rfl
@[simp] theorem State.toEnvelope_eng (es : List LimiterEvent) : (s.toEnvelope es).eng = s.eng := rfl
@[simp] theorem State.toEnvelope_svc (es : List LimiterEvent) : (s.toEnvelope es).svc = s.svc := rfl
@[simp] theorem State.toEnvelope_ntc (es : List LimiterEvent) : (s.toEnvelope es).ntc = s.ntc := rfl
@[simp] theorem State.toEnvelope_mgt (es : List LimiterEvent) : (s.toEnvelope es).mgt = s.mgt := rfl
@[simp] theorem State.toEnvelope_sto (es : List LimiterEvent) : (s.toEnvelope es).sto = s.sto := rfl

/-! `State.toShaping`: a hand-off to the shaping unit. -/

@[simp] theorem State.toShaping_pending : (s.toShaping).pending = s.pending := rfl
@[simp] theorem State.toShaping_phase : (s.toShaping).phase = s.phase := rfl
@[simp] theorem State.toShaping_now : (s.toShaping).now = s.now := rfl
@[simp] theorem State.toShaping_maintEn : (s.toShaping).maintEn = s.maintEn := rfl
@[simp] theorem State.toShaping_pwrWarn : (s.toShaping).pwrWarn = s.pwrWarn := rfl
@[simp] theorem State.toShaping_pilotCut : (s.toShaping).pilotCut = s.pilotCut := rfl
@[simp] theorem State.toShaping_cfg : (s.toShaping).cfg = s.cfg := rfl
@[simp] theorem State.toShaping_ports : (s.toShaping).ports = s.ports := rfl
@[simp] theorem State.toShaping_fwd : (s.toShaping).fwd = s.fwd := rfl
@[simp] theorem State.toShaping_sig : (s.toShaping).sig = s.sig := rfl
@[simp] theorem State.toShaping_pos : (s.toShaping).pos = s.pos := rfl
@[simp] theorem State.toShaping_env : (s.toShaping).env = s.env := rfl
@[simp] theorem State.toShaping_shp : (s.toShaping).shp = { s.shp with positions := s.shp.positions ++ [⟨s.pos.record, s.now⟩] } := rfl
@[simp] theorem State.toShaping_lim : (s.toShaping).lim = s.lim := rfl
@[simp] theorem State.toShaping_eco : (s.toShaping).eco = s.eco := rfl
@[simp] theorem State.toShaping_eng : (s.toShaping).eng = s.eng := rfl
@[simp] theorem State.toShaping_svc : (s.toShaping).svc = s.svc := rfl
@[simp] theorem State.toShaping_ntc : (s.toShaping).ntc = s.ntc := rfl
@[simp] theorem State.toShaping_mgt : (s.toShaping).mgt = s.mgt := rfl
@[simp] theorem State.toShaping_sto : (s.toShaping).sto = s.sto := rfl

/-! `State.countOn`: a count changes one port. -/

@[simp] theorem State.countOn_pending (p : Port) (f : Stats → Stats) : (s.countOn p f).pending = s.pending := rfl
@[simp] theorem State.countOn_phase (p : Port) (f : Stats → Stats) : (s.countOn p f).phase = s.phase := rfl
@[simp] theorem State.countOn_now (p : Port) (f : Stats → Stats) : (s.countOn p f).now = s.now := rfl
@[simp] theorem State.countOn_maintEn (p : Port) (f : Stats → Stats) : (s.countOn p f).maintEn = s.maintEn := rfl
@[simp] theorem State.countOn_pwrWarn (p : Port) (f : Stats → Stats) : (s.countOn p f).pwrWarn = s.pwrWarn := rfl
@[simp] theorem State.countOn_pilotCut (p : Port) (f : Stats → Stats) : (s.countOn p f).pilotCut = s.pilotCut := rfl
@[simp] theorem State.countOn_cfg (p : Port) (f : Stats → Stats) : (s.countOn p f).cfg = s.cfg := rfl
@[simp] theorem State.countOn_ports (p : Port) (f : Stats → Stats) : (s.countOn p f).ports = s.ports.set p { s.ports.get p with stats := f (s.ports.get p).stats } := rfl
@[simp] theorem State.countOn_fwd (p : Port) (f : Stats → Stats) : (s.countOn p f).fwd = s.fwd := rfl
@[simp] theorem State.countOn_sig (p : Port) (f : Stats → Stats) : (s.countOn p f).sig = s.sig := rfl
@[simp] theorem State.countOn_pos (p : Port) (f : Stats → Stats) : (s.countOn p f).pos = s.pos := rfl
@[simp] theorem State.countOn_env (p : Port) (f : Stats → Stats) : (s.countOn p f).env = s.env := rfl
@[simp] theorem State.countOn_shp (p : Port) (f : Stats → Stats) : (s.countOn p f).shp = s.shp := rfl
@[simp] theorem State.countOn_lim (p : Port) (f : Stats → Stats) : (s.countOn p f).lim = s.lim := rfl
@[simp] theorem State.countOn_eco (p : Port) (f : Stats → Stats) : (s.countOn p f).eco = s.eco := rfl
@[simp] theorem State.countOn_eng (p : Port) (f : Stats → Stats) : (s.countOn p f).eng = s.eng := rfl
@[simp] theorem State.countOn_svc (p : Port) (f : Stats → Stats) : (s.countOn p f).svc = s.svc := rfl
@[simp] theorem State.countOn_ntc (p : Port) (f : Stats → Stats) : (s.countOn p f).ntc = s.ntc := rfl
@[simp] theorem State.countOn_mgt (p : Port) (f : Stats → Stats) : (s.countOn p f).mgt = s.mgt := rfl
@[simp] theorem State.countOn_sto (p : Port) (f : Stats → Stats) : (s.countOn p f).sto = s.sto := rfl

/-! `State.setScreening`: the screening values of one entry. -/

@[simp] theorem State.setScreening_pending (i : Nat) (x : Screening) : (s.setScreening i x).pending = s.pending := rfl
@[simp] theorem State.setScreening_phase (i : Nat) (x : Screening) : (s.setScreening i x).phase = s.phase := rfl
@[simp] theorem State.setScreening_now (i : Nat) (x : Screening) : (s.setScreening i x).now = s.now := rfl
@[simp] theorem State.setScreening_maintEn (i : Nat) (x : Screening) : (s.setScreening i x).maintEn = s.maintEn := rfl
@[simp] theorem State.setScreening_pwrWarn (i : Nat) (x : Screening) : (s.setScreening i x).pwrWarn = s.pwrWarn := rfl
@[simp] theorem State.setScreening_pilotCut (i : Nat) (x : Screening) : (s.setScreening i x).pilotCut = s.pilotCut := rfl
@[simp] theorem State.setScreening_cfg (i : Nat) (x : Screening) : (s.setScreening i x).cfg = s.cfg := rfl
@[simp] theorem State.setScreening_ports (i : Nat) (x : Screening) : (s.setScreening i x).ports = s.ports := rfl
@[simp] theorem State.setScreening_fwd (i : Nat) (x : Screening) : (s.setScreening i x).fwd = { s.fwd with screening := s.fwd.screening.set i x } := rfl
@[simp] theorem State.setScreening_sig (i : Nat) (x : Screening) : (s.setScreening i x).sig = s.sig := rfl
@[simp] theorem State.setScreening_pos (i : Nat) (x : Screening) : (s.setScreening i x).pos = s.pos := rfl
@[simp] theorem State.setScreening_env (i : Nat) (x : Screening) : (s.setScreening i x).env = s.env := rfl
@[simp] theorem State.setScreening_shp (i : Nat) (x : Screening) : (s.setScreening i x).shp = s.shp := rfl
@[simp] theorem State.setScreening_lim (i : Nat) (x : Screening) : (s.setScreening i x).lim = s.lim := rfl
@[simp] theorem State.setScreening_eco (i : Nat) (x : Screening) : (s.setScreening i x).eco = s.eco := rfl
@[simp] theorem State.setScreening_eng (i : Nat) (x : Screening) : (s.setScreening i x).eng = s.eng := rfl
@[simp] theorem State.setScreening_svc (i : Nat) (x : Screening) : (s.setScreening i x).svc = s.svc := rfl
@[simp] theorem State.setScreening_ntc (i : Nat) (x : Screening) : (s.setScreening i x).ntc = s.ntc := rfl
@[simp] theorem State.setScreening_mgt (i : Nat) (x : Screening) : (s.setScreening i x).mgt = s.mgt := rfl
@[simp] theorem State.setScreening_sto (i : Nat) (x : Screening) : (s.setScreening i x).sto = s.sto := rfl

/-! `State.toSignal`: a hand-off to the signal unit. -/

@[simp] theorem State.toSignal_pending (w : SignalWork) : (s.toSignal w).pending = s.pending := rfl
@[simp] theorem State.toSignal_phase (w : SignalWork) : (s.toSignal w).phase = s.phase := rfl
@[simp] theorem State.toSignal_now (w : SignalWork) : (s.toSignal w).now = s.now := rfl
@[simp] theorem State.toSignal_maintEn (w : SignalWork) : (s.toSignal w).maintEn = s.maintEn := rfl
@[simp] theorem State.toSignal_pwrWarn (w : SignalWork) : (s.toSignal w).pwrWarn = s.pwrWarn := rfl
@[simp] theorem State.toSignal_pilotCut (w : SignalWork) : (s.toSignal w).pilotCut = s.pilotCut := rfl
@[simp] theorem State.toSignal_cfg (w : SignalWork) : (s.toSignal w).cfg = s.cfg := rfl
@[simp] theorem State.toSignal_ports (w : SignalWork) : (s.toSignal w).ports = s.ports := rfl
@[simp] theorem State.toSignal_fwd (w : SignalWork) : (s.toSignal w).fwd = s.fwd := rfl
@[simp] theorem State.toSignal_sig (w : SignalWork) : (s.toSignal w).sig = { s.sig with inbox := s.sig.inbox.put w } := rfl
@[simp] theorem State.toSignal_pos (w : SignalWork) : (s.toSignal w).pos = s.pos := rfl
@[simp] theorem State.toSignal_env (w : SignalWork) : (s.toSignal w).env = s.env := rfl
@[simp] theorem State.toSignal_shp (w : SignalWork) : (s.toSignal w).shp = s.shp := rfl
@[simp] theorem State.toSignal_lim (w : SignalWork) : (s.toSignal w).lim = s.lim := rfl
@[simp] theorem State.toSignal_eco (w : SignalWork) : (s.toSignal w).eco = s.eco := rfl
@[simp] theorem State.toSignal_eng (w : SignalWork) : (s.toSignal w).eng = s.eng := rfl
@[simp] theorem State.toSignal_svc (w : SignalWork) : (s.toSignal w).svc = s.svc := rfl
@[simp] theorem State.toSignal_ntc (w : SignalWork) : (s.toSignal w).ntc = s.ntc := rfl
@[simp] theorem State.toSignal_mgt (w : SignalWork) : (s.toSignal w).mgt = s.mgt := rfl
@[simp] theorem State.toSignal_sto (w : SignalWork) : (s.toSignal w).sto = s.sto := rfl

/-! `State.finishSignal`: the signal unit finishes its work in hand. -/

@[simp] theorem State.finishSignal_pending : (s.finishSignal).pending = s.pending := rfl
@[simp] theorem State.finishSignal_phase : (s.finishSignal).phase = s.phase := rfl
@[simp] theorem State.finishSignal_now : (s.finishSignal).now = s.now := rfl
@[simp] theorem State.finishSignal_maintEn : (s.finishSignal).maintEn = s.maintEn := rfl
@[simp] theorem State.finishSignal_pwrWarn : (s.finishSignal).pwrWarn = s.pwrWarn := rfl
@[simp] theorem State.finishSignal_pilotCut : (s.finishSignal).pilotCut = s.pilotCut := rfl
@[simp] theorem State.finishSignal_cfg : (s.finishSignal).cfg = s.cfg := rfl
@[simp] theorem State.finishSignal_ports : (s.finishSignal).ports = s.ports := rfl
@[simp] theorem State.finishSignal_fwd : (s.finishSignal).fwd = s.fwd := rfl
@[simp] theorem State.finishSignal_sig : (s.finishSignal).sig = { s.sig with inbox := s.sig.inbox.finish } := rfl
@[simp] theorem State.finishSignal_pos : (s.finishSignal).pos = s.pos := rfl
@[simp] theorem State.finishSignal_env : (s.finishSignal).env = s.env := rfl
@[simp] theorem State.finishSignal_shp : (s.finishSignal).shp = s.shp := rfl
@[simp] theorem State.finishSignal_lim : (s.finishSignal).lim = s.lim := rfl
@[simp] theorem State.finishSignal_eco : (s.finishSignal).eco = s.eco := rfl
@[simp] theorem State.finishSignal_eng : (s.finishSignal).eng = s.eng := rfl
@[simp] theorem State.finishSignal_svc : (s.finishSignal).svc = s.svc := rfl
@[simp] theorem State.finishSignal_ntc : (s.finishSignal).ntc = s.ntc := rfl
@[simp] theorem State.finishSignal_mgt : (s.finishSignal).mgt = s.mgt := rfl
@[simp] theorem State.finishSignal_sto : (s.finishSignal).sto = s.sto := rfl

/-! `State.setWindow`: the error window of one entry. -/

@[simp] theorem State.setWindow_pending (entry : Nat) (w : List Time) : (s.setWindow entry w).pending = s.pending := rfl
@[simp] theorem State.setWindow_phase (entry : Nat) (w : List Time) : (s.setWindow entry w).phase = s.phase := rfl
@[simp] theorem State.setWindow_now (entry : Nat) (w : List Time) : (s.setWindow entry w).now = s.now := rfl
@[simp] theorem State.setWindow_maintEn (entry : Nat) (w : List Time) : (s.setWindow entry w).maintEn = s.maintEn := rfl
@[simp] theorem State.setWindow_pwrWarn (entry : Nat) (w : List Time) : (s.setWindow entry w).pwrWarn = s.pwrWarn := rfl
@[simp] theorem State.setWindow_pilotCut (entry : Nat) (w : List Time) : (s.setWindow entry w).pilotCut = s.pilotCut := rfl
@[simp] theorem State.setWindow_cfg (entry : Nat) (w : List Time) : (s.setWindow entry w).cfg = s.cfg := rfl
@[simp] theorem State.setWindow_ports (entry : Nat) (w : List Time) : (s.setWindow entry w).ports = s.ports := rfl
@[simp] theorem State.setWindow_fwd (entry : Nat) (w : List Time) : (s.setWindow entry w).fwd = s.fwd := rfl
@[simp] theorem State.setWindow_sig (entry : Nat) (w : List Time) : (s.setWindow entry w).sig = { s.sig with windows := s.sig.windows.set entry w } := rfl
@[simp] theorem State.setWindow_pos (entry : Nat) (w : List Time) : (s.setWindow entry w).pos = s.pos := rfl
@[simp] theorem State.setWindow_env (entry : Nat) (w : List Time) : (s.setWindow entry w).env = s.env := rfl
@[simp] theorem State.setWindow_shp (entry : Nat) (w : List Time) : (s.setWindow entry w).shp = s.shp := rfl
@[simp] theorem State.setWindow_lim (entry : Nat) (w : List Time) : (s.setWindow entry w).lim = s.lim := rfl
@[simp] theorem State.setWindow_eco (entry : Nat) (w : List Time) : (s.setWindow entry w).eco = s.eco := rfl
@[simp] theorem State.setWindow_eng (entry : Nat) (w : List Time) : (s.setWindow entry w).eng = s.eng := rfl
@[simp] theorem State.setWindow_svc (entry : Nat) (w : List Time) : (s.setWindow entry w).svc = s.svc := rfl
@[simp] theorem State.setWindow_ntc (entry : Nat) (w : List Time) : (s.setWindow entry w).ntc = s.ntc := rfl
@[simp] theorem State.setWindow_mgt (entry : Nat) (w : List Time) : (s.setWindow entry w).mgt = s.mgt := rfl
@[simp] theorem State.setWindow_sto (entry : Nat) (w : List Time) : (s.setWindow entry w).sto = s.sto := rfl

/-! `State.setFreshness`: the state of one record. -/

@[simp] theorem State.setFreshness_pending (r : Role) (x : SignalState) : (s.setFreshness r x).pending = s.pending := rfl
@[simp] theorem State.setFreshness_phase (r : Role) (x : SignalState) : (s.setFreshness r x).phase = s.phase := rfl
@[simp] theorem State.setFreshness_now (r : Role) (x : SignalState) : (s.setFreshness r x).now = s.now := rfl
@[simp] theorem State.setFreshness_maintEn (r : Role) (x : SignalState) : (s.setFreshness r x).maintEn = s.maintEn := rfl
@[simp] theorem State.setFreshness_pwrWarn (r : Role) (x : SignalState) : (s.setFreshness r x).pwrWarn = s.pwrWarn := rfl
@[simp] theorem State.setFreshness_pilotCut (r : Role) (x : SignalState) : (s.setFreshness r x).pilotCut = s.pilotCut := rfl
@[simp] theorem State.setFreshness_cfg (r : Role) (x : SignalState) : (s.setFreshness r x).cfg = s.cfg := rfl
@[simp] theorem State.setFreshness_ports (r : Role) (x : SignalState) : (s.setFreshness r x).ports = s.ports := rfl
@[simp] theorem State.setFreshness_fwd (r : Role) (x : SignalState) : (s.setFreshness r x).fwd = s.fwd := rfl
@[simp] theorem State.setFreshness_sig (r : Role) (x : SignalState) : (s.setFreshness r x).sig = { s.sig with records := s.sig.records.set r { s.sig.records.get r with state := x } } := rfl
@[simp] theorem State.setFreshness_pos (r : Role) (x : SignalState) : (s.setFreshness r x).pos = s.pos := rfl
@[simp] theorem State.setFreshness_env (r : Role) (x : SignalState) : (s.setFreshness r x).env = s.env := rfl
@[simp] theorem State.setFreshness_shp (r : Role) (x : SignalState) : (s.setFreshness r x).shp = s.shp := rfl
@[simp] theorem State.setFreshness_lim (r : Role) (x : SignalState) : (s.setFreshness r x).lim = s.lim := rfl
@[simp] theorem State.setFreshness_eco (r : Role) (x : SignalState) : (s.setFreshness r x).eco = s.eco := rfl
@[simp] theorem State.setFreshness_eng (r : Role) (x : SignalState) : (s.setFreshness r x).eng = s.eng := rfl
@[simp] theorem State.setFreshness_svc (r : Role) (x : SignalState) : (s.setFreshness r x).svc = s.svc := rfl
@[simp] theorem State.setFreshness_ntc (r : Role) (x : SignalState) : (s.setFreshness r x).ntc = s.ntc := rfl
@[simp] theorem State.setFreshness_mgt (r : Role) (x : SignalState) : (s.setFreshness r x).mgt = s.mgt := rfl
@[simp] theorem State.setFreshness_sto (r : Role) (x : SignalState) : (s.setFreshness r x).sto = s.sto := rfl

/-! `State.finishPosition`: the position unit finishes its work in hand. -/

@[simp] theorem State.finishPosition_pending : (s.finishPosition).pending = s.pending := rfl
@[simp] theorem State.finishPosition_phase : (s.finishPosition).phase = s.phase := rfl
@[simp] theorem State.finishPosition_now : (s.finishPosition).now = s.now := rfl
@[simp] theorem State.finishPosition_maintEn : (s.finishPosition).maintEn = s.maintEn := rfl
@[simp] theorem State.finishPosition_pwrWarn : (s.finishPosition).pwrWarn = s.pwrWarn := rfl
@[simp] theorem State.finishPosition_pilotCut : (s.finishPosition).pilotCut = s.pilotCut := rfl
@[simp] theorem State.finishPosition_cfg : (s.finishPosition).cfg = s.cfg := rfl
@[simp] theorem State.finishPosition_ports : (s.finishPosition).ports = s.ports := rfl
@[simp] theorem State.finishPosition_fwd : (s.finishPosition).fwd = s.fwd := rfl
@[simp] theorem State.finishPosition_sig : (s.finishPosition).sig = s.sig := rfl
@[simp] theorem State.finishPosition_pos : (s.finishPosition).pos = s.pos.finish := rfl
@[simp] theorem State.finishPosition_env : (s.finishPosition).env = s.env := rfl
@[simp] theorem State.finishPosition_shp : (s.finishPosition).shp = s.shp := rfl
@[simp] theorem State.finishPosition_lim : (s.finishPosition).lim = s.lim := rfl
@[simp] theorem State.finishPosition_eco : (s.finishPosition).eco = s.eco := rfl
@[simp] theorem State.finishPosition_eng : (s.finishPosition).eng = s.eng := rfl
@[simp] theorem State.finishPosition_svc : (s.finishPosition).svc = s.svc := rfl
@[simp] theorem State.finishPosition_ntc : (s.finishPosition).ntc = s.ntc := rfl
@[simp] theorem State.finishPosition_mgt : (s.finishPosition).mgt = s.mgt := rfl
@[simp] theorem State.finishPosition_sto : (s.finishPosition).sto = s.sto := rfl

/-! `State.forwardToLimiter`: events for the limiter supervisor. -/

@[simp] theorem State.forwardToLimiter_pending (es : List LimiterEvent) : (s.forwardToLimiter es).pending = s.pending := rfl
@[simp] theorem State.forwardToLimiter_phase (es : List LimiterEvent) : (s.forwardToLimiter es).phase = s.phase := rfl
@[simp] theorem State.forwardToLimiter_now (es : List LimiterEvent) : (s.forwardToLimiter es).now = s.now := rfl
@[simp] theorem State.forwardToLimiter_maintEn (es : List LimiterEvent) : (s.forwardToLimiter es).maintEn = s.maintEn := rfl
@[simp] theorem State.forwardToLimiter_pwrWarn (es : List LimiterEvent) : (s.forwardToLimiter es).pwrWarn = s.pwrWarn := rfl
@[simp] theorem State.forwardToLimiter_pilotCut (es : List LimiterEvent) : (s.forwardToLimiter es).pilotCut = s.pilotCut := rfl
@[simp] theorem State.forwardToLimiter_cfg (es : List LimiterEvent) : (s.forwardToLimiter es).cfg = s.cfg := rfl
@[simp] theorem State.forwardToLimiter_ports (es : List LimiterEvent) : (s.forwardToLimiter es).ports = s.ports := rfl
@[simp] theorem State.forwardToLimiter_fwd (es : List LimiterEvent) : (s.forwardToLimiter es).fwd = s.fwd := rfl
@[simp] theorem State.forwardToLimiter_sig (es : List LimiterEvent) : (s.forwardToLimiter es).sig = s.sig := rfl
@[simp] theorem State.forwardToLimiter_pos (es : List LimiterEvent) : (s.forwardToLimiter es).pos = s.pos := rfl
@[simp] theorem State.forwardToLimiter_env (es : List LimiterEvent) : (s.forwardToLimiter es).env = s.env := rfl
@[simp] theorem State.forwardToLimiter_shp (es : List LimiterEvent) : (s.forwardToLimiter es).shp = s.shp := rfl
@[simp] theorem State.forwardToLimiter_lim (es : List LimiterEvent) : (s.forwardToLimiter es).lim = { s.lim with events := s.lim.events ++ es } := rfl
@[simp] theorem State.forwardToLimiter_eco (es : List LimiterEvent) : (s.forwardToLimiter es).eco = s.eco := rfl
@[simp] theorem State.forwardToLimiter_eng (es : List LimiterEvent) : (s.forwardToLimiter es).eng = s.eng := rfl
@[simp] theorem State.forwardToLimiter_svc (es : List LimiterEvent) : (s.forwardToLimiter es).svc = s.svc := rfl
@[simp] theorem State.forwardToLimiter_ntc (es : List LimiterEvent) : (s.forwardToLimiter es).ntc = s.ntc := rfl
@[simp] theorem State.forwardToLimiter_mgt (es : List LimiterEvent) : (s.forwardToLimiter es).mgt = s.mgt := rfl
@[simp] theorem State.forwardToLimiter_sto (es : List LimiterEvent) : (s.forwardToLimiter es).sto = s.sto := rfl

/-! `State.dropLimiterEvent`: the supervisor takes an event. -/

@[simp] theorem State.dropLimiterEvent_pending (rest : List LimiterEvent) : (s.dropLimiterEvent rest).pending = s.pending := rfl
@[simp] theorem State.dropLimiterEvent_phase (rest : List LimiterEvent) : (s.dropLimiterEvent rest).phase = s.phase := rfl
@[simp] theorem State.dropLimiterEvent_now (rest : List LimiterEvent) : (s.dropLimiterEvent rest).now = s.now := rfl
@[simp] theorem State.dropLimiterEvent_maintEn (rest : List LimiterEvent) : (s.dropLimiterEvent rest).maintEn = s.maintEn := rfl
@[simp] theorem State.dropLimiterEvent_pwrWarn (rest : List LimiterEvent) : (s.dropLimiterEvent rest).pwrWarn = s.pwrWarn := rfl
@[simp] theorem State.dropLimiterEvent_pilotCut (rest : List LimiterEvent) : (s.dropLimiterEvent rest).pilotCut = s.pilotCut := rfl
@[simp] theorem State.dropLimiterEvent_cfg (rest : List LimiterEvent) : (s.dropLimiterEvent rest).cfg = s.cfg := rfl
@[simp] theorem State.dropLimiterEvent_ports (rest : List LimiterEvent) : (s.dropLimiterEvent rest).ports = s.ports := rfl
@[simp] theorem State.dropLimiterEvent_fwd (rest : List LimiterEvent) : (s.dropLimiterEvent rest).fwd = s.fwd := rfl
@[simp] theorem State.dropLimiterEvent_sig (rest : List LimiterEvent) : (s.dropLimiterEvent rest).sig = s.sig := rfl
@[simp] theorem State.dropLimiterEvent_pos (rest : List LimiterEvent) : (s.dropLimiterEvent rest).pos = s.pos := rfl
@[simp] theorem State.dropLimiterEvent_env (rest : List LimiterEvent) : (s.dropLimiterEvent rest).env = s.env := rfl
@[simp] theorem State.dropLimiterEvent_shp (rest : List LimiterEvent) : (s.dropLimiterEvent rest).shp = s.shp := rfl
@[simp] theorem State.dropLimiterEvent_lim (rest : List LimiterEvent) : (s.dropLimiterEvent rest).lim = { s.lim with events := rest } := rfl
@[simp] theorem State.dropLimiterEvent_eco (rest : List LimiterEvent) : (s.dropLimiterEvent rest).eco = s.eco := rfl
@[simp] theorem State.dropLimiterEvent_eng (rest : List LimiterEvent) : (s.dropLimiterEvent rest).eng = s.eng := rfl
@[simp] theorem State.dropLimiterEvent_svc (rest : List LimiterEvent) : (s.dropLimiterEvent rest).svc = s.svc := rfl
@[simp] theorem State.dropLimiterEvent_ntc (rest : List LimiterEvent) : (s.dropLimiterEvent rest).ntc = s.ntc := rfl
@[simp] theorem State.dropLimiterEvent_mgt (rest : List LimiterEvent) : (s.dropLimiterEvent rest).mgt = s.mgt := rfl
@[simp] theorem State.dropLimiterEvent_sto (rest : List LimiterEvent) : (s.dropLimiterEvent rest).sto = s.sto := rfl

/-! `State.finishShaping`: the shaping unit finishes its work in hand. -/

@[simp] theorem State.finishShaping_pending : (s.finishShaping).pending = s.pending := rfl
@[simp] theorem State.finishShaping_phase : (s.finishShaping).phase = s.phase := rfl
@[simp] theorem State.finishShaping_now : (s.finishShaping).now = s.now := rfl
@[simp] theorem State.finishShaping_maintEn : (s.finishShaping).maintEn = s.maintEn := rfl
@[simp] theorem State.finishShaping_pwrWarn : (s.finishShaping).pwrWarn = s.pwrWarn := rfl
@[simp] theorem State.finishShaping_pilotCut : (s.finishShaping).pilotCut = s.pilotCut := rfl
@[simp] theorem State.finishShaping_cfg : (s.finishShaping).cfg = s.cfg := rfl
@[simp] theorem State.finishShaping_ports : (s.finishShaping).ports = s.ports := rfl
@[simp] theorem State.finishShaping_fwd : (s.finishShaping).fwd = s.fwd := rfl
@[simp] theorem State.finishShaping_sig : (s.finishShaping).sig = s.sig := rfl
@[simp] theorem State.finishShaping_pos : (s.finishShaping).pos = s.pos := rfl
@[simp] theorem State.finishShaping_env : (s.finishShaping).env = s.env := rfl
@[simp] theorem State.finishShaping_shp : (s.finishShaping).shp = { s.shp with inbox := s.shp.inbox.finish } := rfl
@[simp] theorem State.finishShaping_lim : (s.finishShaping).lim = s.lim := rfl
@[simp] theorem State.finishShaping_eco : (s.finishShaping).eco = s.eco := rfl
@[simp] theorem State.finishShaping_eng : (s.finishShaping).eng = s.eng := rfl
@[simp] theorem State.finishShaping_svc : (s.finishShaping).svc = s.svc := rfl
@[simp] theorem State.finishShaping_ntc : (s.finishShaping).ntc = s.ntc := rfl
@[simp] theorem State.finishShaping_mgt : (s.finishShaping).mgt = s.mgt := rfl
@[simp] theorem State.finishShaping_sto : (s.finishShaping).sto = s.sto := rfl

/-! `State.setTarget`: the target is computed. -/

@[simp] theorem State.setTarget_pending : (s.setTarget).pending = s.pending := rfl
@[simp] theorem State.setTarget_phase : (s.setTarget).phase = s.phase := rfl
@[simp] theorem State.setTarget_now : (s.setTarget).now = s.now := rfl
@[simp] theorem State.setTarget_maintEn : (s.setTarget).maintEn = s.maintEn := rfl
@[simp] theorem State.setTarget_pwrWarn : (s.setTarget).pwrWarn = s.pwrWarn := rfl
@[simp] theorem State.setTarget_pilotCut : (s.setTarget).pilotCut = s.pilotCut := rfl
@[simp] theorem State.setTarget_cfg : (s.setTarget).cfg = s.cfg := rfl
@[simp] theorem State.setTarget_ports : (s.setTarget).ports = s.ports := rfl
@[simp] theorem State.setTarget_fwd : (s.setTarget).fwd = s.fwd := rfl
@[simp] theorem State.setTarget_sig : (s.setTarget).sig = s.sig := rfl
@[simp] theorem State.setTarget_pos : (s.setTarget).pos = s.pos := rfl
@[simp] theorem State.setTarget_env : (s.setTarget).env = s.env := rfl
@[simp] theorem State.setTarget_shp : (s.setTarget).shp = s.shp := rfl
@[simp] theorem State.setTarget_lim : (s.setTarget).lim = s.lim := rfl
@[simp] theorem State.setTarget_eco : (s.setTarget).eco = { s.eco with target := some (computeTarget s.cfg.economy s.eco) } := rfl
@[simp] theorem State.setTarget_eng : (s.setTarget).eng = s.eng := rfl
@[simp] theorem State.setTarget_svc : (s.setTarget).svc = s.svc := rfl
@[simp] theorem State.setTarget_ntc : (s.setTarget).ntc = s.ntc := rfl
@[simp] theorem State.setTarget_mgt : (s.setTarget).mgt = s.mgt := rfl
@[simp] theorem State.setTarget_sto : (s.setTarget).sto = s.sto := rfl

/-! `State.setItem`: the state of one item. -/

@[simp] theorem State.setItem_pending (i : Nat) (x : ItemState) : (s.setItem i x).pending = s.pending := rfl
@[simp] theorem State.setItem_phase (i : Nat) (x : ItemState) : (s.setItem i x).phase = s.phase := rfl
@[simp] theorem State.setItem_now (i : Nat) (x : ItemState) : (s.setItem i x).now = s.now := rfl
@[simp] theorem State.setItem_maintEn (i : Nat) (x : ItemState) : (s.setItem i x).maintEn = s.maintEn := rfl
@[simp] theorem State.setItem_pwrWarn (i : Nat) (x : ItemState) : (s.setItem i x).pwrWarn = s.pwrWarn := rfl
@[simp] theorem State.setItem_pilotCut (i : Nat) (x : ItemState) : (s.setItem i x).pilotCut = s.pilotCut := rfl
@[simp] theorem State.setItem_cfg (i : Nat) (x : ItemState) : (s.setItem i x).cfg = s.cfg := rfl
@[simp] theorem State.setItem_ports (i : Nat) (x : ItemState) : (s.setItem i x).ports = s.ports := rfl
@[simp] theorem State.setItem_fwd (i : Nat) (x : ItemState) : (s.setItem i x).fwd = s.fwd := rfl
@[simp] theorem State.setItem_sig (i : Nat) (x : ItemState) : (s.setItem i x).sig = s.sig := rfl
@[simp] theorem State.setItem_pos (i : Nat) (x : ItemState) : (s.setItem i x).pos = s.pos := rfl
@[simp] theorem State.setItem_env (i : Nat) (x : ItemState) : (s.setItem i x).env = s.env := rfl
@[simp] theorem State.setItem_shp (i : Nat) (x : ItemState) : (s.setItem i x).shp = s.shp := rfl
@[simp] theorem State.setItem_lim (i : Nat) (x : ItemState) : (s.setItem i x).lim = s.lim := rfl
@[simp] theorem State.setItem_eco (i : Nat) (x : ItemState) : (s.setItem i x).eco = s.eco := rfl
@[simp] theorem State.setItem_eng (i : Nat) (x : ItemState) : (s.setItem i x).eng = s.eng := rfl
@[simp] theorem State.setItem_svc (i : Nat) (x : ItemState) : (s.setItem i x).svc = { s.svc with items := s.svc.items.set i x } := rfl
@[simp] theorem State.setItem_ntc (i : Nat) (x : ItemState) : (s.setItem i x).ntc = s.ntc := rfl
@[simp] theorem State.setItem_mgt (i : Nat) (x : ItemState) : (s.setItem i x).mgt = s.mgt := rfl
@[simp] theorem State.setItem_sto (i : Nat) (x : ItemState) : (s.setItem i x).sto = s.sto := rfl

/-! `State.clearNotice`: the pending flag of a source is cleared. -/

@[simp] theorem State.clearNotice_pending (source : Nat) : (s.clearNotice source).pending = s.pending := rfl
@[simp] theorem State.clearNotice_phase (source : Nat) : (s.clearNotice source).phase = s.phase := rfl
@[simp] theorem State.clearNotice_now (source : Nat) : (s.clearNotice source).now = s.now := rfl
@[simp] theorem State.clearNotice_maintEn (source : Nat) : (s.clearNotice source).maintEn = s.maintEn := rfl
@[simp] theorem State.clearNotice_pwrWarn (source : Nat) : (s.clearNotice source).pwrWarn = s.pwrWarn := rfl
@[simp] theorem State.clearNotice_pilotCut (source : Nat) : (s.clearNotice source).pilotCut = s.pilotCut := rfl
@[simp] theorem State.clearNotice_cfg (source : Nat) : (s.clearNotice source).cfg = s.cfg := rfl
@[simp] theorem State.clearNotice_ports (source : Nat) : (s.clearNotice source).ports = s.ports := rfl
@[simp] theorem State.clearNotice_fwd (source : Nat) : (s.clearNotice source).fwd = s.fwd := rfl
@[simp] theorem State.clearNotice_sig (source : Nat) : (s.clearNotice source).sig = s.sig := rfl
@[simp] theorem State.clearNotice_pos (source : Nat) : (s.clearNotice source).pos = s.pos := rfl
@[simp] theorem State.clearNotice_env (source : Nat) : (s.clearNotice source).env = s.env := rfl
@[simp] theorem State.clearNotice_shp (source : Nat) : (s.clearNotice source).shp = s.shp := rfl
@[simp] theorem State.clearNotice_lim (source : Nat) : (s.clearNotice source).lim = s.lim := rfl
@[simp] theorem State.clearNotice_eco (source : Nat) : (s.clearNotice source).eco = s.eco := rfl
@[simp] theorem State.clearNotice_eng (source : Nat) : (s.clearNotice source).eng = s.eng := rfl
@[simp] theorem State.clearNotice_svc (source : Nat) : (s.clearNotice source).svc = s.svc := rfl
@[simp] theorem State.clearNotice_ntc (source : Nat) : (s.clearNotice source).ntc = { s.ntc with sources := s.ntc.sources.set source { s.ntc.source source with pending := false, argument := latestArgument source (s.ntc.source source).argument s.ntc.messages }, messages := s.ntc.messages.filter fun m => !raises source m } := rfl
@[simp] theorem State.clearNotice_mgt (source : Nat) : (s.clearNotice source).mgt = s.mgt := rfl
@[simp] theorem State.clearNotice_sto (source : Nat) : (s.clearNotice source).sto = s.sto := rfl

/-! `State.setNotice`: the notice unit is replaced. -/

@[simp] theorem State.setNotice_pending (v : NoticeUnit) : (s.setNotice v).pending = s.pending := rfl
@[simp] theorem State.setNotice_phase (v : NoticeUnit) : (s.setNotice v).phase = s.phase := rfl
@[simp] theorem State.setNotice_now (v : NoticeUnit) : (s.setNotice v).now = s.now := rfl
@[simp] theorem State.setNotice_maintEn (v : NoticeUnit) : (s.setNotice v).maintEn = s.maintEn := rfl
@[simp] theorem State.setNotice_pwrWarn (v : NoticeUnit) : (s.setNotice v).pwrWarn = s.pwrWarn := rfl
@[simp] theorem State.setNotice_pilotCut (v : NoticeUnit) : (s.setNotice v).pilotCut = s.pilotCut := rfl
@[simp] theorem State.setNotice_cfg (v : NoticeUnit) : (s.setNotice v).cfg = s.cfg := rfl
@[simp] theorem State.setNotice_ports (v : NoticeUnit) : (s.setNotice v).ports = s.ports := rfl
@[simp] theorem State.setNotice_fwd (v : NoticeUnit) : (s.setNotice v).fwd = s.fwd := rfl
@[simp] theorem State.setNotice_sig (v : NoticeUnit) : (s.setNotice v).sig = s.sig := rfl
@[simp] theorem State.setNotice_pos (v : NoticeUnit) : (s.setNotice v).pos = s.pos := rfl
@[simp] theorem State.setNotice_env (v : NoticeUnit) : (s.setNotice v).env = s.env := rfl
@[simp] theorem State.setNotice_shp (v : NoticeUnit) : (s.setNotice v).shp = s.shp := rfl
@[simp] theorem State.setNotice_lim (v : NoticeUnit) : (s.setNotice v).lim = s.lim := rfl
@[simp] theorem State.setNotice_eco (v : NoticeUnit) : (s.setNotice v).eco = s.eco := rfl
@[simp] theorem State.setNotice_eng (v : NoticeUnit) : (s.setNotice v).eng = s.eng := rfl
@[simp] theorem State.setNotice_svc (v : NoticeUnit) : (s.setNotice v).svc = s.svc := rfl
@[simp] theorem State.setNotice_ntc (v : NoticeUnit) : (s.setNotice v).ntc = v := rfl
@[simp] theorem State.setNotice_mgt (v : NoticeUnit) : (s.setNotice v).mgt = s.mgt := rfl
@[simp] theorem State.setNotice_sto (v : NoticeUnit) : (s.setNotice v).sto = s.sto := rfl

/-! `State.dropServiceHalf`: the held half of the service unit. -/

@[simp] theorem State.dropServiceHalf_pending : (s.dropServiceHalf).pending = s.pending := rfl
@[simp] theorem State.dropServiceHalf_phase : (s.dropServiceHalf).phase = s.phase := rfl
@[simp] theorem State.dropServiceHalf_now : (s.dropServiceHalf).now = s.now := rfl
@[simp] theorem State.dropServiceHalf_maintEn : (s.dropServiceHalf).maintEn = s.maintEn := rfl
@[simp] theorem State.dropServiceHalf_pwrWarn : (s.dropServiceHalf).pwrWarn = s.pwrWarn := rfl
@[simp] theorem State.dropServiceHalf_pilotCut : (s.dropServiceHalf).pilotCut = s.pilotCut := rfl
@[simp] theorem State.dropServiceHalf_cfg : (s.dropServiceHalf).cfg = s.cfg := rfl
@[simp] theorem State.dropServiceHalf_ports : (s.dropServiceHalf).ports = s.ports := rfl
@[simp] theorem State.dropServiceHalf_fwd : (s.dropServiceHalf).fwd = s.fwd := rfl
@[simp] theorem State.dropServiceHalf_sig : (s.dropServiceHalf).sig = s.sig := rfl
@[simp] theorem State.dropServiceHalf_pos : (s.dropServiceHalf).pos = s.pos := rfl
@[simp] theorem State.dropServiceHalf_env : (s.dropServiceHalf).env = s.env := rfl
@[simp] theorem State.dropServiceHalf_shp : (s.dropServiceHalf).shp = s.shp := rfl
@[simp] theorem State.dropServiceHalf_lim : (s.dropServiceHalf).lim = s.lim := rfl
@[simp] theorem State.dropServiceHalf_eco : (s.dropServiceHalf).eco = s.eco := rfl
@[simp] theorem State.dropServiceHalf_eng : (s.dropServiceHalf).eng = s.eng := rfl
@[simp] theorem State.dropServiceHalf_svc : (s.dropServiceHalf).svc = { s.svc with heldHigh := none } := rfl
@[simp] theorem State.dropServiceHalf_ntc : (s.dropServiceHalf).ntc = s.ntc := rfl
@[simp] theorem State.dropServiceHalf_mgt : (s.dropServiceHalf).mgt = s.mgt := rfl
@[simp] theorem State.dropServiceHalf_sto : (s.dropServiceHalf).sto = s.sto := rfl

/-! `State.dropHalf`: the held half of the management unit. -/

@[simp] theorem State.dropHalf_pending : (s.dropHalf).pending = s.pending := rfl
@[simp] theorem State.dropHalf_phase : (s.dropHalf).phase = s.phase := rfl
@[simp] theorem State.dropHalf_now : (s.dropHalf).now = s.now := rfl
@[simp] theorem State.dropHalf_maintEn : (s.dropHalf).maintEn = s.maintEn := rfl
@[simp] theorem State.dropHalf_pwrWarn : (s.dropHalf).pwrWarn = s.pwrWarn := rfl
@[simp] theorem State.dropHalf_pilotCut : (s.dropHalf).pilotCut = s.pilotCut := rfl
@[simp] theorem State.dropHalf_cfg : (s.dropHalf).cfg = s.cfg := rfl
@[simp] theorem State.dropHalf_ports : (s.dropHalf).ports = s.ports := rfl
@[simp] theorem State.dropHalf_fwd : (s.dropHalf).fwd = s.fwd := rfl
@[simp] theorem State.dropHalf_sig : (s.dropHalf).sig = s.sig := rfl
@[simp] theorem State.dropHalf_pos : (s.dropHalf).pos = s.pos := rfl
@[simp] theorem State.dropHalf_env : (s.dropHalf).env = s.env := rfl
@[simp] theorem State.dropHalf_shp : (s.dropHalf).shp = s.shp := rfl
@[simp] theorem State.dropHalf_lim : (s.dropHalf).lim = s.lim := rfl
@[simp] theorem State.dropHalf_eco : (s.dropHalf).eco = s.eco := rfl
@[simp] theorem State.dropHalf_eng : (s.dropHalf).eng = s.eng := rfl
@[simp] theorem State.dropHalf_svc : (s.dropHalf).svc = s.svc := rfl
@[simp] theorem State.dropHalf_ntc : (s.dropHalf).ntc = s.ntc := rfl
@[simp] theorem State.dropHalf_mgt : (s.dropHalf).mgt = { s.mgt with heldHigh := none } := rfl
@[simp] theorem State.dropHalf_sto : (s.dropHalf).sto = s.sto := rfl

/-! `State.finishManagement`: the management unit finishes its work in hand. -/

@[simp] theorem State.finishManagement_pending : (s.finishManagement).pending = s.pending := rfl
@[simp] theorem State.finishManagement_phase : (s.finishManagement).phase = s.phase := rfl
@[simp] theorem State.finishManagement_now : (s.finishManagement).now = s.now := rfl
@[simp] theorem State.finishManagement_maintEn : (s.finishManagement).maintEn = s.maintEn := rfl
@[simp] theorem State.finishManagement_pwrWarn : (s.finishManagement).pwrWarn = s.pwrWarn := rfl
@[simp] theorem State.finishManagement_pilotCut : (s.finishManagement).pilotCut = s.pilotCut := rfl
@[simp] theorem State.finishManagement_cfg : (s.finishManagement).cfg = s.cfg := rfl
@[simp] theorem State.finishManagement_ports : (s.finishManagement).ports = s.ports := rfl
@[simp] theorem State.finishManagement_fwd : (s.finishManagement).fwd = s.fwd := rfl
@[simp] theorem State.finishManagement_sig : (s.finishManagement).sig = s.sig := rfl
@[simp] theorem State.finishManagement_pos : (s.finishManagement).pos = s.pos := rfl
@[simp] theorem State.finishManagement_env : (s.finishManagement).env = s.env := rfl
@[simp] theorem State.finishManagement_shp : (s.finishManagement).shp = s.shp := rfl
@[simp] theorem State.finishManagement_lim : (s.finishManagement).lim = s.lim := rfl
@[simp] theorem State.finishManagement_eco : (s.finishManagement).eco = s.eco := rfl
@[simp] theorem State.finishManagement_eng : (s.finishManagement).eng = s.eng := rfl
@[simp] theorem State.finishManagement_svc : (s.finishManagement).svc = s.svc := rfl
@[simp] theorem State.finishManagement_ntc : (s.finishManagement).ntc = s.ntc := rfl
@[simp] theorem State.finishManagement_mgt : (s.finishManagement).mgt = { s.mgt with inbox := s.mgt.inbox.finish } := rfl
@[simp] theorem State.finishManagement_sto : (s.finishManagement).sto = s.sto := rfl

/-! `State.storeIdle`: the store controller becomes IDLE. -/

@[simp] theorem State.storeIdle_pending : (s.storeIdle).pending = s.pending := rfl
@[simp] theorem State.storeIdle_phase : (s.storeIdle).phase = s.phase := rfl
@[simp] theorem State.storeIdle_now : (s.storeIdle).now = s.now := rfl
@[simp] theorem State.storeIdle_maintEn : (s.storeIdle).maintEn = s.maintEn := rfl
@[simp] theorem State.storeIdle_pwrWarn : (s.storeIdle).pwrWarn = s.pwrWarn := rfl
@[simp] theorem State.storeIdle_pilotCut : (s.storeIdle).pilotCut = s.pilotCut := rfl
@[simp] theorem State.storeIdle_cfg : (s.storeIdle).cfg = s.cfg := rfl
@[simp] theorem State.storeIdle_ports : (s.storeIdle).ports = s.ports := rfl
@[simp] theorem State.storeIdle_fwd : (s.storeIdle).fwd = s.fwd := rfl
@[simp] theorem State.storeIdle_sig : (s.storeIdle).sig = s.sig := rfl
@[simp] theorem State.storeIdle_pos : (s.storeIdle).pos = s.pos := rfl
@[simp] theorem State.storeIdle_env : (s.storeIdle).env = s.env := rfl
@[simp] theorem State.storeIdle_shp : (s.storeIdle).shp = s.shp := rfl
@[simp] theorem State.storeIdle_lim : (s.storeIdle).lim = s.lim := rfl
@[simp] theorem State.storeIdle_eco : (s.storeIdle).eco = s.eco := rfl
@[simp] theorem State.storeIdle_eng : (s.storeIdle).eng = s.eng := rfl
@[simp] theorem State.storeIdle_svc : (s.storeIdle).svc = s.svc := rfl
@[simp] theorem State.storeIdle_ntc : (s.storeIdle).ntc = s.ntc := rfl
@[simp] theorem State.storeIdle_mgt : (s.storeIdle).mgt = s.mgt := rfl
@[simp] theorem State.storeIdle_sto : (s.storeIdle).sto = pendingStarts { s.sto with activity := .idle } := rfl

end Sys2Proof.Machine
end

