-- ==== Sys2Proof/Laws/Ops.lean ====
section
/-! SUPPORT. What each shared operation can do, said once. -/
namespace Sys2Proof.Machine

/-! ## Outcomes -/

theorem whileRunning_running (f : State → State) (h : s.phase = .running) : whileRunning s f = .next (f s) := by
  simp [whileRunning, h]

theorem whileRunning_inert (f : State → State) (h : s.phase ≠ .running) : whileRunning s f = .next s := by
  simp [whileRunning, h]

theorem whileActive_active (f : State → State) (h : s.phase = .running ∨ s.phase = .startUp) :
    whileActive s f = .next (f s) := by
  simp [whileActive, h]

theorem whileActive_inert (f : State → State) (h : ¬(s.phase = .running ∨ s.phase = .startUp)) :
    whileActive s f = .next s := by
  simp [whileActive, h]

/-- A request in hand is taken by the command of its code. -/
theorem takeRequest_taken {is : Nat → Bool} {f : ManagementFrame → State → State} {m : ManagementFrame}
    (hp : s.phase = .running) (hm : s.mgt.inbox.inHand = some m) (hl : 8 ≤ m.data.length)
    (hc : is (requestCode m.data) = true) : takeRequest is f s = .next (f m s.finishManagement) := by
  simp [takeRequest, whileRunning, hp, hm, hl, hc]

/-! ## Hand-offs -/

/-- A hand-off is taken in hand by a free block, and otherwise waits (R3). -/
theorem Inbox.put_cases (b : Inbox α) (x : α) :
    (b.inHand = none ∧ b.put x = ⟨some x, b.waiting⟩) ∨ (∃ y, b.inHand = some y ∧ b.put x = ⟨some y, some x⟩) := by
  unfold Inbox.put
  cases h : b.inHand with
  | none => exact .inl ⟨rfl, rfl⟩
  | some y => exact .inr ⟨y, rfl, by simp⟩

@[simp] theorem Inbox.finish_inHand (b : Inbox α) : b.finish.inHand = b.waiting := rfl

@[simp] theorem Inbox.finish_waiting (b : Inbox α) : b.finish.waiting = none := rfl

/-! ## Transmit queues -/

/-- An entry that waits under an origin and an identifier. -/
def waitsUnder (o : Origin) (i : CanId) (e : TxEntry) : Prop := e.origin = o ∧ e.ident = i ∧ e.started = false

/-- Coalescing fails exactly when no entry waits under the origin and identifier (R17). -/
theorem coalesce_none_iff (o : Origin) (f : Frame) (q : List TxEntry) :
    coalesce o f q = none ↔ ∀ e ∈ q, ¬waitsUnder o f.ident e := by
  induction q with
  | nil => simp [coalesce]
  | cons e q ih =>
    unfold coalesce
    by_cases h : e.origin = o ∧ e.ident = f.ident ∧ e.started = false
    · rw [if_pos h]
      simp only [reduceCtorEq, List.mem_cons, forall_eq_or_imp, false_iff, not_and]
      exact fun hx => absurd h hx
    · rw [if_neg h, Option.map_eq_none_iff, ih]
      simp only [List.mem_cons, forall_eq_or_imp]
      exact ⟨fun hx => ⟨h, hx⟩, fun hx => hx.2⟩

/-- Coalescing replaces the data of the first entry that waits under the origin and identifier, in its place (R17). -/
theorem coalesce_some {o : Origin} {f : Frame} {q q' : List TxEntry} (h : coalesce o f q = some q') :
    ∃ l e r, q = l ++ e :: r ∧ waitsUnder o f.ident e ∧ (∀ x ∈ l, ¬waitsUnder o f.ident x) ∧
      q' = l ++ { e with data := f.data } :: r := by
  induction q generalizing q' with
  | nil => simp [coalesce] at h
  | cons e q ih =>
    unfold coalesce at h
    by_cases he : e.origin = o ∧ e.ident = f.ident ∧ e.started = false
    · rw [if_pos he] at h
      cases h
      exact ⟨[], e, q, rfl, he, by simp, rfl⟩
    · rw [if_neg he] at h
      obtain ⟨q1, hq, rfl⟩ := Option.map_eq_some_iff.mp h
      obtain ⟨l, x, r, rfl, hx, hl, rfl⟩ := ih hq
      refine ⟨e :: l, x, r, rfl, hx, ?_, rfl⟩
      intro y hy
      cases List.mem_cons.mp hy with
      | inl h1 => rw [h1]; exact he
      | inr h1 => exact hl y h1

/-- A waiting forwarded entry (R19). -/
def waitsForwarded (e : TxEntry) : Prop := e.origin = .forwarded ∧ e.started = false

/-- No entry can be displaced exactly when no forwarded entry waits (R19). -/
theorem dropNewestForwarded_none_iff (q : List TxEntry) :
    dropNewestForwarded q = none ↔ ∀ e ∈ q, ¬waitsForwarded e := by
  induction q with
  | nil => simp [dropNewestForwarded]
  | cons e q ih =>
    unfold dropNewestForwarded
    cases h : dropNewestForwarded q with
    | some q1 =>
      have hn : ¬∀ e ∈ q, ¬waitsForwarded e := by rw [← ih, h]; simp
      simp only [reduceCtorEq, List.mem_cons, forall_eq_or_imp, false_iff, not_and]
      exact fun _ hx => hn hx
    | none =>
      have hn := ih.mp h
      by_cases he : e.origin = .forwarded ∧ e.started = false
      · simp [he, waitsForwarded]
      · simp only [he, if_false, true_iff, List.mem_cons, forall_eq_or_imp]
        exact ⟨he, hn⟩

/-- The newest waiting forwarded entry is removed (R19). -/
theorem dropNewestForwarded_some {q q' : List TxEntry} (h : dropNewestForwarded q = some q') :
    ∃ l e r, q = l ++ e :: r ∧ waitsForwarded e ∧ (∀ x ∈ r, ¬waitsForwarded x) ∧ q' = l ++ r := by
  induction q generalizing q' with
  | nil => simp [dropNewestForwarded] at h
  | cons e q ih =>
    unfold dropNewestForwarded at h
    cases hq : dropNewestForwarded q with
    | some q1 =>
      simp only [hq, Option.some.injEq] at h
      subst h
      obtain ⟨l, x, r, rfl, hx, hr, rfl⟩ := ih hq
      exact ⟨e :: l, x, r, rfl, hx, hr, rfl⟩
    | none =>
      simp only [hq] at h
      by_cases he : e.origin = .forwarded ∧ e.started = false
      · simp only [he, and_self, if_true, Option.some.injEq] at h
        subst h
        exact ⟨[], e, q, rfl, he, (dropNewestForwarded_none_iff q).mp hq, rfl⟩
      · simp [he] at h

/-- What an offer to a transmit queue can do (R17, R18, R19, R22). -/
theorem offerTo_cases (p : PortState) (o : Origin) (f : Frame) :
    (p.bus = .busOff ∧ offerTo p o f = { p with stats := countDrop p.stats 1 }) ∨
    (p.bus = .onBus ∧ ∃ q, coalesce o f p.tx = some q ∧
      offerTo p o f = { p with tx := q, stats := { p.stats with coalesced := countUp p.stats.coalesced } }) ∨
    (p.bus = .onBus ∧ coalesce o f p.tx = none ∧ p.tx.length < 32 ∧ (o = .forwarded → forwardedCount p.tx < 28) ∧
      offerTo p o f = { p with tx := p.tx ++ [newEntry o f] }) ∨
    (p.bus = .onBus ∧ coalesce o f p.tx = none ∧ o = .own ∧ 32 ≤ p.tx.length ∧ ∃ q, dropNewestForwarded p.tx = some q ∧
      offerTo p o f = { p with tx := q ++ [newEntry o f], stats := countDrop p.stats 1 }) ∨
    (p.bus = .onBus ∧ coalesce o f p.tx = none ∧
      (o = .forwarded → ¬(forwardedCount p.tx < 28 ∧ p.tx.length < 32)) ∧
      (o = .own → 32 ≤ p.tx.length ∧ dropNewestForwarded p.tx = none) ∧
      offerTo p o f = { p with stats := countDrop p.stats 1 }) := by
  unfold offerTo
  cases hb : p.bus with
  | busOff => exact .inl ⟨rfl, rfl⟩
  | onBus =>
    cases hc : coalesce o f p.tx with
    | some q => exact .inr (.inl ⟨rfl, q, rfl, rfl⟩)
    | none =>
      cases o with
      | forwarded =>
        by_cases h : forwardedCount p.tx < 28 ∧ p.tx.length < 32
        · exact .inr (.inr (.inl ⟨rfl, rfl, h.2, fun _ => h.1, by simp [h]⟩))
        · exact .inr (.inr (.inr (.inr ⟨rfl, rfl, fun _ => h, by simp, by simp [h]⟩)))
      | own =>
        by_cases h : p.tx.length < 32
        · exact .inr (.inr (.inl ⟨rfl, rfl, h, by simp, by simp [h]⟩))
        · cases hd : dropNewestForwarded p.tx with
          | some q => exact .inr (.inr (.inr (.inl ⟨rfl, rfl, rfl, by omega, q, rfl, by simp [h]⟩)))
          | none => exact .inr (.inr (.inr (.inr ⟨rfl, rfl, by simp, fun _ => ⟨by omega, rfl⟩, by simp [h]⟩)))

/-- An offer touches nothing but the queue and the statistics of the port. -/
theorem offerTo_frame (p : PortState) (o : Origin) (f : Frame) :
    (offerTo p o f).rx = p.rx ∧ (offerTo p o f).bus = p.bus ∧ (offerTo p o f).tally = p.tally ∧
      (offerTo p o f).idleSince = p.idleSince := by
  rcases offerTo_cases p o f with h | h | h | h | h
  · rw [h.2]; exact ⟨rfl, rfl, rfl, rfl⟩
  · obtain ⟨_, q, _, h⟩ := h
    rw [h]; exact ⟨rfl, rfl, rfl, rfl⟩
  · rw [h.2.2.2.2]; exact ⟨rfl, rfl, rfl, rfl⟩
  · obtain ⟨_, _, _, _, q, _, h⟩ := h
    rw [h]; exact ⟨rfl, rfl, rfl, rfl⟩
  · rw [h.2.2.2.2]; exact ⟨rfl, rfl, rfl, rfl⟩

/-! ## Composed frames -/

/-- A frame the part composes has a data length of 8 (R195). -/
theorem composed_length (i : CanId) (b : List Byte) : (composed i b).data.length = 8 := by
  simp [composed]

theorem closeCheck_length (d : List Byte) (i : Nat) : (closeCheck d i).length = d.length := by
  simp [closeCheck]

theorem composedChecked_length (i : CanId) (b : List Byte) : (composedChecked i b).data.length = 8 := by
  simp [composedChecked, closeCheck_length]

/-! ## Checkpoint requests -/

/-- A request starts a checkpoint, leaves one pending, or is absorbed (R166). -/
theorem requestCheckpoint_cases (v : StoreUnit) :
    (v.checkpointDue = true ∧ requestCheckpoint v = v) ∨
    (v.checkpointDue = false ∧ v.free = true ∧ v.checkpointPending = false ∧
      requestCheckpoint v = { v with checkpointDue := true }) ∨
    (v.checkpointDue = false ∧ (v.free = false ∨ v.checkpointPending = true) ∧
      requestCheckpoint v = { v with checkpointPending := true }) := by
  unfold requestCheckpoint
  cases h : v.checkpointDue <;> cases hf : v.free <;> cases hp : v.checkpointPending <;> simp

/-- A pending checkpoint becomes due when no STORE waits (R166, R167). -/
theorem pendingStarts_cases (v : StoreUnit) :
    (v.checkpointPending = true ∧ v.storeWaiting = none ∧ pendingStarts v = { v with checkpointDue := true }) ∨
    ((v.checkpointPending = false ∨ v.storeWaiting.isSome = true) ∧ pendingStarts v = v) := by
  unfold pendingStarts
  cases hp : v.checkpointPending <;> cases hs : v.storeWaiting <;> simp

/-! ## The position unit's notifications -/

/-- A notification of accepted roles is taken, waits, or is joined with the one that waits (R51). -/
theorem PositionUnit.notify_cases (u : PositionUnit) (n : AcceptNote) :
    (u.inHand = none ∧ u.notify n = { u with inHand := some (.accepted n) }) ∨
    (u.inHand.isSome = true ∧ u.waiting = none ∧ u.notify n = { u with waiting := some n }) ∨
    (u.inHand.isSome = true ∧ ∃ w, u.waiting = some w ∧
      u.notify n = { u with waiting := some (w.join n) }) := by
  unfold PositionUnit.notify
  cases hi : u.inHand <;> cases hw : u.waiting <;> simp

/-- What a joined notification says of a role: its value in the later notification, or else the one in the earlier (R51). -/
theorem AcceptNote.mem_join (w n : AcceptNote) (r : Role) (v : Int) :
    ⟨r, v⟩ ∈ (w.join n).values ↔ ⟨r, v⟩ ∈ n.values ∨ ⟨r, v⟩ ∈ w.values ∧ ∀ v', ⟨r, v'⟩ ∉ n.values := by
  simp only [AcceptNote.join, AcceptNote.named, List.mem_append, List.mem_filter, Bool.not_eq_true', List.contains_eq_mem,
    decide_eq_false_iff_not, List.mem_map, not_exists, not_and]
  constructor
  · rintro (⟨h, h'⟩ | h)
    · exact .inr ⟨h, fun v' hv => h' _ hv rfl⟩
    · exact .inl h
  · rintro (h | ⟨h, h'⟩)
    · exact .inr h
    · refine .inl ⟨h, ?_⟩
      rintro ⟨r', v'⟩ hm rfl
      exact h' _ hm

/-- A loss is told to the position unit and the limiter supervisor, to the economy unit, or to no block; who is told gets the
part time of the expiry (R36). -/
theorem State.notifyLost_cases (s : State) (r : Role) :
    (isPosition r = true ∧ s.notifyLost r = { s with
      pos := s.pos.notifyLoss ⟨r, s.now⟩
      lim := { s.lim with events := s.lim.events ++ [.report ⟨.positionLost, some r, none, none, some s.now⟩] } }) ∨
    (r = .engineSpeed ∧ s.notifyLost r = { s with eco := { s.eco with speedLosses := s.eco.speedLosses ++ [s.now] } }) ∨
    (isPosition r = false ∧ r ≠ .engineSpeed ∧ s.notifyLost r = s) := by
  cases r <;> simp [State.notifyLost, isPosition, State.report]

/-! ## The service unit's notifications -/

/-- The service unit is told of a frame, or the frame names none of its roles (R35). -/
theorem ServiceUnit.accept_cases (v : ServiceUnit) (n : ServiceNote) :
    (n.slew = none ∧ n.engine = [] ∧ v.accept n = v) ∨
    ((n.slew.isSome = true ∨ n.engine ≠ []) ∧ v.accept n = { v with notes := v.notes ++ [n] }) := by
  unfold ServiceUnit.accept
  cases hs : n.slew <;> cases he : n.engine <;> simp

/-- Notifications that do not name SLEW_ANGLE are passed over (R155). -/
theorem nextSlew_append (before rest : List ServiceNote) (x : SlewStep) (e : List RoleValue)
    (h : ∀ n ∈ before, n.slew = none) : nextSlew (before ++ ⟨some x, e⟩ :: rest) = some (x, rest) := by
  induction before with
  | nil => rfl
  | cons n ns ih => simp [nextSlew, h n, ih fun m hm => h m (by simp [hm])]

theorem nextSlew_none (ns : List ServiceNote) (h : ∀ n ∈ ns, n.slew = none) : nextSlew ns = none := by
  induction ns with
  | nil => rfl
  | cons n ns ih => simp [nextSlew, h n, ih fun m hm => h m (by simp [hm])]

/-! ## The end of a waiting activation -/

/-- Without a waiting activation nothing happens; with one it ends and ACTIVATE_BANK is answered (R77). -/
theorem State.endActivation_cases (s : State) (st : Status) :
    (s.env.activation = none ∧ s.endActivation st = s) ∨
    (∃ a, s.env.activation = some a ∧ s.endActivation st =
      State.reply { s with env := { s.env with activation := none, testAsked := false }, mgt := { s.mgt with progress := none } }
        a.port 5 a.sequence st []) := by
  unfold State.endActivation
  cases h : s.env.activation with
  | none => exact .inl ⟨rfl, rfl⟩
  | some a => exact .inr ⟨a, rfl, rfl⟩

/-! ## Judgement of items -/

/-- A judged item has the state that its definition and accumulator give (R158). -/
@[simp] theorem judgedItem_condition (d : ItemDef) (before : ItemCondition) (keep : Bool) (x : ItemState) :
    (judgedItem d before keep x).condition = itemCondition d x.accumulator := by
  unfold judgedItem
  dsimp only
  split
  · split <;> rfl
  · rfl

@[simp] theorem judgedItem_accumulator (d : ItemDef) (before : ItemCondition) (keep : Bool) (x : ItemState) :
    (judgedItem d before keep x).accumulator = x.accumulator := by
  unfold judgedItem
  dsimp only
  split
  · split <;> rfl
  · rfl

/-- A judgement gives a next state with the item judged, and one raise when the state of an enabled item becomes worse
(R158). -/
theorem judgeItem_cases (keep : Bool) (before : ItemCondition) (i : Nat) (s : State) :
    ∃ x, x = judgedItem (s.cfg.item i) before keep (s.svc.item i) ∧
      judgeItem keep before i s =
        (if (s.cfg.item i).enabled && worse x.condition before then
          (s.setItem i x).raise (srcItem i) (conditionCode x.condition)
        else s.setItem i x) :=
  ⟨_, rfl, rfl⟩

/-! ## Taking a fault -/

/-- A report opens a record and enters RESTRICTED or HOLD, repeats an open one, is counted, or is not taken (R105 to
R110). -/
theorem takeReport_cases (r : FaultReport) (s : State) :
    ((s.lim.state = .startup ∧ r.kind ≠ .positionLost ∨ s.lim.state = .normal) ∧ takeReport r s = enterRestricted r s) ∨
    (s.lim.state = .startup ∧ r.kind = .positionLost ∧ takeReport r s = s) ∨
    (s.lim.state = .restricted ∧ takeReport r s = enterHold r s) ∨
    ((s.lim.state = .restricted ∨ s.lim.state = .hold) ∧
      ∃ f, s.lim.openRecord = some f ∧ matchesRecord r f = true ∧ takeReport r s = repeatOpen f s) ∨
    (s.lim.state = .hold ∧ ∃ f, s.lim.secondRecord = some f ∧ matchesRecord r f = true ∧ takeReport r s = repeatSecond f s) ∨
    (s.lim.state = .hold ∧
      takeReport r s = { s with lim := { s.lim with faultInHold := countUp s.lim.faultInHold } }) := by
  unfold takeReport
  cases hs : s.lim.state with
  | startup =>
    cases hk : r.kind <;> simp
  | normal => simp
  | restricted =>
    cases ho : s.lim.openRecord with
    | none => simp
    | some f => by_cases hm : matchesRecord r f = true <;> simp [hm]
  | hold =>
    cases ho : s.lim.openRecord with
    | none =>
      cases h2 : s.lim.secondRecord with
      | none => simp
      | some g => by_cases hm : matchesRecord r g = true <;> simp [hm]
    | some f =>
      by_cases hm : matchesRecord r f = true
      · simp [hm]
      · cases h2 : s.lim.secondRecord with
        | none => simp [hm]
        | some g => by_cases hg : matchesRecord r g = true <;> simp [hm, hg]

/-! ## Tags -/

/-- A tag that is allocated lies from 1 to 255 (R139). -/
theorem nextTag_range {t : Nat} (h : t ≤ 255) : 1 ≤ nextTag t ∧ nextTag t ≤ 255 := by
  unfold nextTag
  split <;> omega

theorem freshTag_range (n : Nat) {t : Nat} (held : List Nat) (h : t ≤ 255) :
    1 ≤ freshTag n t held ∧ freshTag n t held ≤ 255 := by
  induction n generalizing t with
  | zero => exact nextTag_range h
  | succ n ih =>
    unfold freshTag
    split
    · exact ih (nextTag_range h).2
    · exact nextTag_range h

/-! ## The condition for a waiting activation -/

/-- An approach whose single distance is at 0 or above has every distance at 0 or above (R61 to R65). -/
theorem approach_restricts_nonneg {x : EnvelopeInputs} {p : PositionRecord} {hd : BankHeader} {e : EnvelopeEntry}
    {a : Approach} (h : approach x p hd e = some a) (h0 : 0 ≤ a.distance) : ∀ r ∈ a.restricts, 0 ≤ r.2 := by
  unfold approach at h
  split at h
  · split at h
    · cases h
      unfold slewApproach at h0 ⊢
      split
      · rename_i hs
        simp only [hs, if_true] at h0
        simp only [List.mem_cons, List.not_mem_nil, or_false, forall_eq_or_imp, forall_eq]
        omega
      · rename_i hs
        simp only [hs, Bool.false_eq_true, if_false] at h0 ⊢
        split <;> rename_i hq <;> simp [hq] at h0 ⊢ <;> omega
    · cases h
      simp only [tipApproach, List.mem_map, forall_exists_index, and_imp] at h0 ⊢
      rintro r d - rfl
      exact h0
  · cases h

/-- The condition for a waiting activation is R75's, in its three parts. -/
theorem activationHolds_iff (s : State) : activationHolds s = true ↔
    s.pos.record.valid = true ∧ (∀ d, dirGet s.env.distance.targets d = 1024) ∧
      ∀ i a, i < 16 →
        approach (envelopeInputs s) s.pos.record s.cfg.shadowBank.header (s.cfg.shadowBank.entryAt i) = some a →
        0 ≤ a.distance ∧ ∀ x ∈ a.restricts, 0 ≤ x.2 := by
  have h2 : nothingBraked s.env.distance = true ↔ ∀ d, dirGet s.env.distance.targets d = 1024 := by
    unfold nothingBraked
    constructor
    · intro h d
      simp [dirList, dirs, axes] at h
      rcases d with ⟨x, n⟩
      cases x <;> cases n <;> simp_all
    · intro h
      simp [dirList, dirs, axes, h]
  unfold activationHolds insideLimits approaches
  simp only [Bool.and_eq_true, and_assoc, h2, List.all_map, List.all_eq_true, List.mem_range, Function.comp]
  refine and_congr_right fun _ => and_congr_right fun _ => ⟨fun h i a hi ha => ?_, fun h i hi => ?_⟩
  · have h0 := h i hi
    rw [ha] at h0
    exact ⟨of_decide_eq_true h0, approach_restricts_nonneg ha (of_decide_eq_true h0)⟩
  · cases ha : approach (envelopeInputs s) s.pos.record s.cfg.shadowBank.header (s.cfg.shadowBank.entryAt i) with
    | none => rfl
    | some a => exact decide_eq_true (h i a hi ha).1

/-- What the test of an activation does: nothing without one that waits, nothing after a breach or on a condition that is
false, and otherwise the swap (R75, R76, R78). -/
theorem testActivation_cases (s : State) :
    (s.env.activation = none ∧ testActivation s = s) ∨
    (∃ a, s.env.activation = some a ∧ (a.breached = true ∨ activationHolds s = false) ∧ testActivation s = s) ∨
    (∃ a, s.env.activation = some a ∧ a.breached = false ∧ activationHolds s = true ∧ testActivation s = swapBanks s) := by
  unfold testActivation
  cases s.env.activation with
  | none => exact .inl ⟨rfl, rfl⟩
  | some a => cases ha : a.breached <;> cases hh : activationHolds s <;> simp [ha]

@[simp] theorem Activation.afterComputation_port (d : DistanceRecord) (a : Activation) :
    (a.afterComputation d).port = a.port := rfl

@[simp] theorem Activation.afterComputation_sequence (d : DistanceRecord) (a : Activation) :
    (a.afterComputation d).sequence = a.sequence := rfl

@[simp] theorem Activation.afterComputation_since (d : DistanceRecord) (a : Activation) :
    (a.afterComputation d).since = a.since := rfl

@[simp] theorem Activation.afterComputation_breached (d : DistanceRecord) (a : Activation) :
    (a.afterComputation d).breached = (a.breached || breachPresent d) := rfl

/-! ## The nonvolatile areas -/

theorem Half.add_sub_self (a : Half) : a + (65535 - a) = 65535 := by bv_omega

/-- An area written with its check passes it (R190). -/
@[simp] theorem configPasses_stored (c : ConfigImage) : configPasses (storedConfig c) = true :=
  decide_eq_true (Half.add_sub_self _)

/-- An area written with its check passes it (R165, R167). -/
@[simp] theorem countersPass_stored (c : CounterImage) : countersPass (storedCounters c) = true :=
  decide_eq_true (Half.add_sub_self _)

/-- Content that is all 0 sums to 0, however its fields are packed into words (R165). -/
theorem openSum_zero (free : List Half → Half) {fs : List Half} (h : ∀ x ∈ fs, x = 0) : openSum free fs = 0 :=
  if_pos (List.all_eq_true.2 fun x hx => beq_iff_eq.2 (h x hx))

theorem sum_zero {ws : List Half} (h : ∀ x ∈ ws, x = 0) : ws.foldl (· + ·) 0 = 0 := by
  induction ws with
  | nil => rfl
  | cons w ws ih =>
    rw [List.foldl_cons, h w (by simp)]
    exact ih fun x hx => h x (List.mem_cons_of_mem w hx)

/-- A counter area that is all 0 fails its check (R165). -/
theorem countersPass_zero {c : CounterImage} (hc : ∀ x ∈ countWords c, x = 0) (hh : ∀ x ∈ historyFields c, x = 0) :
    countersPass ⟨c, 0⟩ = false := by
  have h : counterSum c = 0 := by rw [counterSum, openSum_zero _ hh, sum_zero hc]; rfl
  unfold countersPass
  rw [h]
  rfl

/-- A configuration area that is all 0 fails its check (R165, R190). -/
theorem configPasses_zero {c : ConfigImage} (h : ∀ x ∈ imageFields c, x = 0) : configPasses ⟨c, 0⟩ = false := by
  have h' : imageSum c = 0 := openSum_zero _ h
  unfold configPasses
  rw [h']
  rfl

/-- What the configuration area gives: itself when its check is good, and otherwise nothing (R191). -/
theorem goodConfig_some_iff (v : StoreUnit) (a : StoredConfig) :
    goodConfig v = some a ↔ v.configArea = some a ∧ imageSum a.image + a.check = 65535 := by
  simp [goodConfig, Option.filter_eq_some_iff, configPasses]

/-- What the counter area gives: its content when its check is good, and otherwise nothing (R165, R168, R169). -/
theorem goodCounters_some_iff (v : StoreUnit) (c : CounterImage) :
    goodCounters v = some c ↔ ∃ check, v.counterArea = some ⟨c, check⟩ ∧ counterSum c + check = 65535 := by
  constructor
  · intro h
    obtain ⟨⟨image, check⟩, ha, rfl⟩ := Option.map_eq_some_iff.1 h
    have ha := Option.filter_eq_some_iff.1 ha
    exact ⟨check, ha.1, by simpa [countersPass] using ha.2⟩
  · rintro ⟨check, ha, hs⟩
    exact Option.map_eq_some_iff.2 ⟨_, Option.filter_eq_some_iff.2 ⟨ha, decide_eq_true hs⟩, rfl⟩

theorem goodConfig_stored (v : StoreUnit) (c : ConfigImage) (h : v.configArea = some (storedConfig c)) :
    goodConfig v = some (storedConfig c) := by
  simp [goodConfig, h]

theorem goodCounters_stored (v : StoreUnit) (c : CounterImage) (h : v.counterArea = some (storedCounters c)) :
    goodCounters v = some c :=
  (goodCounters_some_iff v c).2 ⟨_, h, Half.add_sub_self _⟩

/-- The end of the read of a RELOAD: nothing is applied on a failed check or in HOLD (R193), and otherwise the image is. -/
theorem endReload_cases (s : State) (h : s.sto.activity = .readingConfig) :
    (goodConfig s.sto = none ∧ endReload s = (finishProgress 8 .badValue s).storeIdle) ∨
      (s.lim.state = .hold ∧ endReload s = (finishProgress 8 .notAllowed s).storeIdle) ∨
      (s.lim.state ≠ .hold ∧ ∃ c, goodConfig s.sto = some c ∧
        endReload s = (finishProgress 8 .ok (applyReload c s)).storeIdle) := by
  cases hg : goodConfig s.sto with
  | none => exact .inl ⟨rfl, by simp [endReload, reloadOutcome, h, hg]⟩
  | some c =>
    by_cases hl : s.lim.state = .hold
    · exact .inr (.inl ⟨hl, by simp [endReload, reloadOutcome, h, hg, hl]⟩)
    · exact .inr (.inr ⟨hl, c, rfl, by simp [endReload, reloadOutcome, h, hg, hl]⟩)

/-- A stored image is applied (R190, R193, R194). -/
theorem endReload_stored (s : State) (c : ConfigImage) (h : s.sto.activity = .readingConfig)
    (ha : s.sto.configArea = some (storedConfig c)) (hl : s.lim.state ≠ .hold) :
    endReload s = (finishProgress 8 .ok (applyReload (storedConfig c) s)).storeIdle := by
  simp [endReload, reloadOutcome, h, goodConfig_stored _ _ ha, hl]

/-! ## A hand-off held back across a reload -/

@[simp] theorem keptTable_idem (old new : PerRole SignalEntry) (h : HandOff) :
    keptTable new (keptTable old h) = keptTable old h := by
  cases h with
  | signal t => cases t <;> rfl
  | _ => rfl

/-! ## Notices withdrawn -/

/-- After a notice of a source has been withdrawn its source is not pending and no raise of it waits (R179). -/
theorem State.clearNotice_spec (s : State) (k : Nat) :
    (k < s.ntc.sources.length → ((s.clearNotice k).ntc.source k).pending = false) ∧
      (∀ a, .raise k a ∉ (s.clearNotice k).ntc.messages) ∧
      (∀ j, j ≠ k → (s.clearNotice k).ntc.source j = s.ntc.source j) := by
  refine ⟨fun h => ?_, fun a => ?_, fun j hj => ?_⟩
  · simp [State.clearNotice, NoticeUnit.source, h]
  · simp [State.clearNotice, raises]
  · simp [State.clearNotice, NoticeUnit.source, List.getD_eq_getElem?_getD, List.getElem?_set_ne (Ne.symm hj)]

/-! ## Every command completes -/

/-- Every command answers a next state: the manual gives no command that stops the part. -/
theorem exec_next (c : Instr) (s : State) : ∃ t, exec c s = .next t := by
  cases c <;> exact ⟨_, rfl⟩

end Sys2Proof.Machine
end

