-- ==== Sys2Proof/WellFormed.lean ====
section
/-! DEFINITION. Which commands are well formed: the frame of a RECEIVE_FRAME has the data that a CAN frame can have. -/
namespace Sys2Proof

/-- A frame on a segment carries at most eight data bytes (section 1.1), and none when it is a remote frame. -/
def frameWellFormed (f : BusFrame) : Bool := decide (f.data.length ≤ 8) && (!f.remote || f.data.isEmpty)

/-- A command is well formed. -/
def WellFormed (c : Instr) : Bool :=
  match c with
  | .receiveFrame _ f => frameWellFormed f
  | _ => true

end Sys2Proof
end

