-- ==== Sys2Proof/Tests/Slice0.lean ====
section
/-! SUPPORT. Tests: the checks of WellFormed and Decode, the manual's worked examples, and for every statement with
hypotheses a state and operands that meet them. Expected values are the manual's own figures, or are worked by hand from
the rule that the comment names. -/
namespace Sys2Proof.Tests
open Sys2Proof Sys2Proof.Machine

/-! ## States for the tests -/

/-- What a command leaves, read through `f`; none when it does not answer a next state. -/
def result (c : Instr) (s : State) (f : State → α) : Option α :=
  match exec c s with
  | .next t => some (f t)
  | _ => none

/-- The part running with nothing loaded, its start-up reads done, the limiter as `x`. -/
def partIn (x : LimiterUnit) : State :=
  { State.reset with phase := .running, lim := x, sto := resetStore none none }

/-- The part running in NORMAL. -/
def ready : State := partIn { resetLimiter with state := .normal, startupSince := none }

/-- A request of eight bytes in the hand of the management unit, from port A. -/
def asked (d : List Byte) (s : State) : State := { s with mgt := { s.mgt with inbox := ⟨some ⟨.a, d⟩, none⟩ } }

/-- A frame alone in the FIFO of port B. -/
def arrived (f : Frame) (s : State) : State := { s with ports := ⟨s.ports.a, { s.ports.b with rx := [f] }⟩ }

/-! ## WellFormed and Decode -/

/-- A frame of nine data bytes is refused (section 1.1). -/
theorem test_wellFormed_nine_bytes : WellFormed (.receiveFrame .a ⟨true, false, true, 5, List.replicate 9 0⟩) = false := by
  decide

/-- A remote frame with data is refused. -/
theorem test_wellFormed_remote_with_data : WellFormed (.receiveFrame .a ⟨true, true, true, 5, [1]⟩) = false := by decide

theorem test_wellFormed_eight_bytes : WellFormed (.receiveFrame .a ⟨true, false, true, 5, List.replicate 8 0⟩) = true := by
  decide

/-- The opcode table gives no row any bits, so no word spells a command. -/
theorem test_no_word_spells_a_command : decodeTableWord 8 0 = none ∧ decodeTableWord 16 65535 = none := by decide

/-! ## Ports and forwarding (chapter 1) -/

/-- Entry 12 of the worked example of section 1.2: SIGNAL, not consumed, minimum length 8, counter at 6, check at 7. -/
def inclinometer : FrameEntry :=
  { defaultFrameEntry with
    enabled := true, matchIdent := 700, mask := 536870911, arrival := .b, action := .signal, counterPos := some 6
    checkPos := some 7, minLength := 8 }

/-- The part with that entry, its last accepted counter given, and a frame arrived. -/
def withInclinometer (last : Option Nat) (d : List Byte) : State :=
  arrived ⟨700, d⟩ { ready with
    cfg := { ready.cfg with frame := ready.cfg.frame.set 12 inclinometer }
    fwd := { ready.fwd with screening := ready.fwd.screening.set 12 ⟨last, 0⟩ } }

/-- What the worked example records of a frame: last accepted counter, check error count, port B's MALFORMED, CHECK_ERR,
REPEAT and SEQ_GAP, and the frames offered to port A. -/
def screened (s : State) : Option Nat × Nat × List Nat × Nat :=
  ((s.screeningOf 12).lastCounter, (s.screeningOf 12).checkErrors,
    [s.ports.b.stats.malformed, s.ports.b.stats.checkErr, s.ports.b.stats.repeats, s.ports.b.stats.seqGap],
    s.ports.a.tx.length)

/-- Frame 1: no counter before, counter 9, sum 0. -/
theorem test_forward_first : result .forwardFrame (withInclinometer none [0, 0, 0, 0, 0, 0, 9, 247]) screened =
    some (some 9, 0, [0, 0, 0, 0], 1) := by decide

/-- Frame 3: counter 10 after 10. -/
theorem test_forward_repeat : result .forwardFrame (withInclinometer (some 10) [0, 0, 0, 0, 0, 0, 10, 246]) screened =
    some (some 10, 0, [0, 0, 1, 0], 0) := by decide

/-- Frame 4: sum 41, so the counter is not read and the signal unit gets a report. -/
theorem test_forward_check_error :
    result .forwardFrame (withInclinometer (some 10) [0, 0, 0, 0, 0, 0, 12, 29])
      (fun t => (screened t, t.sig.inbox.inHand)) =
    some ((some 10, 1, [0, 1, 0, 0], 0), some (.checkError 12 0)) := by decide

/-- Frame 5: 12 after 10 is a gap. -/
theorem test_forward_gap : result .forwardFrame (withInclinometer (some 10) [0, 0, 0, 0, 0, 0, 12, 244]) screened =
    some (some 12, 0, [0, 0, 0, 1], 1) := by decide

/-- Frame 6: six bytes under a minimum of eight. -/
theorem test_forward_malformed : result .forwardFrame (withInclinometer (some 12) [0, 0, 0, 0, 0, 13]) screened =
    some (some 12, 0, [1, 0, 0, 0], 0) := by decide

/-- A waiting entry of a transmit queue. -/
def waitingEntry (o : Origin) (i : CanId) : TxEntry := ⟨o, i, [], false, false⟩

/-- The queue of the worked example of section 1.3: 28 waiting forwarded entries of which S28 (identifier 128) is the last,
then G and N, both started; identifiers G 10, N 20, M 30, S1 to S28 101 to 128. -/
def loadedPort : PortState :=
  { resetPort with
    tx := (List.range 28).map (fun i => waitingEntry .forwarded (BitVec.ofNat 29 (101 + i))) ++
      [⟨.own, 10, [], true, false⟩, ⟨.own, 20, [], true, false⟩]
    tally := 40 }

/-- Forwarded entries, part-originated entries, TX_DROP and COALESCED. -/
def queueFigures (p : PortState) : Nat × Nat × Nat × Nat :=
  (forwardedCount p.tx, p.tx.length - forwardedCount p.tx, p.stats.txDrop, p.stats.coalesced)

/-- The port after steps 1 to 3 of the worked example. -/
def loadedThree : PortState :=
  offerTo (offerTo (offerTo loadedPort .own ⟨10, [1]⟩) .own ⟨20, [2]⟩) .own ⟨30, [3]⟩

theorem test_offer_under_load :
    queueFigures (offerTo loadedPort .own ⟨10, [1]⟩) = (28, 3, 0, 0) ∧ queueFigures loadedThree = (27, 5, 1, 0) ∧
    queueFigures (offerTo loadedThree .forwarded ⟨101, [4]⟩) = (27, 5, 1, 1) ∧
    queueFigures (offerTo loadedThree .forwarded ⟨129, []⟩) = (27, 5, 2, 0) := by decide

/-- Steps 6 and 8: the lowest identifier is G, the entry that entered first; success takes the tally from 40 to 39. -/
theorem test_attempts_under_load :
    result (.attemptStart .a) { ready with ports := ⟨loadedThree, resetPort⟩ }
      (fun t => (t.ports.a.tx.filter fun e => e.attempting).map fun e => (e.ident, e.data)) = some [(10, [])] ∧
    result (.attemptEnd .a .success)
      { ready with ports := ⟨{ resetPort with tx := [⟨.own, 10, [], true, true⟩], tally := 40 }, resetPort⟩ }
      (fun t => (t.ports.a.tx, t.ports.a.tally)) = some ([], 39) ∧
    result (.attemptEnd .a .failure)
      { ready with ports := ⟨{ resetPort with tx := [⟨.own, 10, [], true, true⟩], tally := 39 }, resetPort⟩ }
      (fun t => (t.ports.a.tx.length, t.ports.a.tally)) = some (1, 47) := by decide

/-- R21: a failure at tally 248 brings it to 256, and the port goes BUS_OFF with its two entries dropped. -/
theorem test_bus_off :
    result (.attemptEnd .b .failure)
      { ready with ports := ⟨resetPort, { resetPort with
        tx := [⟨.own, 10, [], true, true⟩, waitingEntry .forwarded 40], tally := 248 }⟩ }
      (fun t => (t.ports.b.bus, t.ports.b.tx, t.ports.b.stats.txDrop, t.ports.b.stats.busOff, t.ntc.messages)) =
    some (.busOff, [], 2, 1, [.raise 11 1]) := by decide

/-- R22: the bus idle timer at 500 ms. -/
theorem test_bus_idle :
    result (.busIdleTimeout .b)
      { ready with now := 700, ports := ⟨resetPort, { resetPort with bus := .busOff, tally := 256, idleSince := some 200 }⟩ }
      (fun t => (t.ports.b.bus, t.ports.b.tally, t.ports.b.idleSince)) = some (.onBus, 0, none) := by decide

/-- R1: a frame goes into the FIFO, a remote frame does not. -/
theorem test_receive :
    result (.receiveFrame .b ⟨true, false, true, 7, [1, 2]⟩) ready (fun t => t.ports.b.rx) = some [⟨7, [1, 2]⟩] ∧
    result (.receiveFrame .b ⟨true, true, true, 7, []⟩) ready (fun t => t.ports.b.rx) = some [] := by decide

/-- R3: a hand-off held back is made to a block that is free. -/
theorem test_deferred_hand_off :
    result .deferredHandOff { ready with fwd := { ready.fwd with held := some (.engineReply [1, 1]) } }
      (fun t => (t.fwd.held, t.eng.inbox.inHand)) = some (none, some [1, 1]) := by decide

/-! ## Signals (chapter 2) -/

/-- The slew encoder of the worked example of section 2.6. -/
def encoderTable : PerRole SignalEntry :=
  let t := PerRole.tabulate defaultSignalEntry
  { t with
    slewAngle := { t.slewAngle with enabled := true, entry := 20, signed := false, calibration := 1200 }
    slewRate := { t.slewRate with enabled := true, entry := 20, offset := 2, lowFirst := true } }

/-- The part with that table, SLEW_ANGLE FRESH at 350, and the frame of the example in hand, received at 52310. -/
def encoderFrame : State :=
  { ready with
    now := 52310
    sig := { ready.sig with
      records := { ready.sig.records with slewAngle := ⟨350, .fresh, some 52290, 0⟩, slewRate := ⟨-180, .fresh, some 52290, 0⟩ }
      inbox := ⟨some (.frame encoderTable 20 [138, 172, 56, 255, 0, 0, 0, 0] 52310), none⟩ } }

theorem test_slew_encoder :
    result .signalFrame encoderFrame (fun t => (t.sig.records.slewAngle, t.sig.records.slewRate)) =
      some (⟨700, .fresh, some 52310, 0⟩, ⟨-200, .fresh, some 52310, 0⟩) := by decide

/-- One notification to the position unit, SLEW_ANGLE with its previous value to the service unit, SLEW_RATE to economy. -/
theorem test_slew_encoder_notifies :
    result .signalFrame encoderFrame (fun t => (t.pos.inHand, t.svc.notes, t.eco.slewRates)) =
      some (some (.accepted ⟨[⟨.slewAngle, 700⟩, ⟨.slewRate, -200⟩], 52310⟩), [⟨some ⟨some 350, 700⟩, []⟩], [-200]) := by decide

/-- R35: a frame of the engine controller that carries speed, load and a pump pressure gives the service unit one notification
that names all three, and the economy unit ENGINE_SPEED. -/
theorem test_engine_frame_notifies :
    let t := PerRole.tabulate defaultSignalEntry
    result .signalFrame { ready with sig := { ready.sig with inbox := ⟨some (.frame
        { t with
          engineSpeed := { t.engineSpeed with enabled := true, entry := 5 }
          engineLoad := { t.engineLoad with enabled := true, entry := 5, offset := 2 }
          pumpPress2 := { t.pumpPress2 with enabled := true, entry := 5, offset := 4 } }
        5 [6, 64, 0, 80, 117, 48, 0, 0] 40), none⟩ } }
      (fun t => (t.pos.inHand, t.svc.notes, t.eco.speeds)) =
    some (none, [⟨none, [⟨.engineSpeed, 1600⟩, ⟨.engineLoad, 80⟩, ⟨.pumpPress2, 30000⟩]⟩], [1600]) := by decide

/-- The bucket inclinometer of the worked example of section 2.7, at its report of 9050 and of 9060. -/
theorem test_error_window :
    result .checkErrorReport { ready with sig := { ready.sig with
        windows := ready.sig.windows.set 14 [8000, 8150, 8300, 8450, 8600, 8750, 8900]
        inbox := ⟨some (.checkError 14 9050), none⟩ } }
      (fun t => (t.windowOf 14, t.ntc.messages)) = some ([8150, 8300, 8450, 8600, 8750, 8900, 9050], []) ∧
    result .checkErrorReport { ready with sig := { ready.sig with
        windows := ready.sig.windows.set 14 [8150, 8300, 8450, 8600, 8750, 8900, 9050]
        inbox := ⟨some (.checkError 14 9060), none⟩ } }
      (fun t => (t.windowOf 14, t.ntc.messages)) = some ([], [.raise 8 14]) := by decide

/-- BOOM_ANGLE of the worked example of section 2.5, accepted at 1020, at part time `now`. -/
def boomAt (x : SignalState) (now : Time) : State :=
  { ready with now := now, sig := { ready.sig with records := { ready.sig.records with boomAngle := ⟨3004, x, some 1020, 1⟩ } } }

/-- The timeout expiry at 1120, and not at 1119. -/
theorem test_timeout_expiry :
    result (.timeoutExpiry .boomAngle) (boomAt .fresh 1119) (fun t => t.sig.records.boomAngle.state) = some .fresh ∧
    result (.timeoutExpiry .boomAngle) (boomAt .fresh 1120) (fun t => t.sig.records.boomAngle.state) = some .holding := by
  decide

/-- The hold expiry at 1420, told to the position unit and the limiter supervisor. -/
theorem test_hold_expiry :
    result (.holdExpiry .boomAngle) (boomAt .holding 1420)
      (fun t => (t.sig.records.boomAngle.state, t.pos.inHand, t.lim.events)) =
    some (.lost, some (.loss ⟨.boomAngle, 1420⟩), [.report ⟨.positionLost, some .boomAngle, none, none, some 1420⟩]) := by decide

/-! ## Bucket position (chapter 3) -/

/-- The worked sines of section 3.3. -/
theorem test_sines :
    sine builtInSine 3025 = 16507 ∧ sine builtInSine (-7000) = -30792 ∧ cosine builtInSine (-11000) = -11207 ∧
    sine builtInSine 8950 = 32765 ∧ sine builtInSine 9000 = 32767 ∧
    sine ((builtInSine.set 45 23170).set 46 23160) 4533 = 23167 := by decide

/-- The links of the worked examples of section 3.4, the three link angles FRESH at the given values, ψ at 4500, and an
acceptance of BOOM_ANGLE in the hand of the position unit. -/
def posed (boom arm bucket : Int) : State :=
  { ready with
    cfg := { ready.cfg with geometry := ⟨8500, 4200, 2100, 1200, 2900⟩ }
    sig := { ready.sig with records := { ready.sig.records with
      boomAngle := ⟨boom, .fresh, some 0, 0⟩, armAngle := ⟨arm, .fresh, some 0, 0⟩, bucketAngle := ⟨bucket, .fresh, some 0, 0⟩
      slewAngle := ⟨4500, .fresh, some 0, 0⟩, slewRate := ⟨0, .fresh, some 0, 0⟩ } }
    pos := { ready.pos with inHand := some (.accepted ⟨[⟨.boomAngle, boom⟩], 9⟩) } }

theorem test_tip_computation :
    result .positionComputation (posed 3000 (-7000) (-11000)) (fun t => t.pos.record) =
      some ⟨9279, 1230, 4500, 0, true, false, some 9, 1⟩ := by decide

theorem test_clamped_radius :
    result .positionComputation (posed 8000 (-10000) (-18000))
      (fun t => (t.pos.record.r, t.pos.record.h, t.pos.record.clamped, t.env.inbox.inHand.map fun x => x.forLimiter)) =
    some (0, 7135, true, some [.position ⟨0, 7135, 4500, 0, true, true, some 9, 1⟩,
      .report ⟨.positionClamp, none, none, some ⟨0, 7135, 4500, 0, true, true, some 9, 1⟩, none⟩]) := by decide

/-- R53: a SLEW_RATE acceptance alone changes ω. -/
theorem test_slew_rate_update :
    result .slewRateUpdate { posed 0 0 0 with
        sig := { ready.sig with records := { ready.sig.records with slewRate := ⟨-120, .fresh, some 0, 0⟩ } }
        pos := { ready.pos with inHand := some (.accepted ⟨[⟨.slewRate, -120⟩], 9⟩) } }
      (fun t => (t.pos.record.omega, t.pos.record.count, t.shp.positions.length)) = some (-120, 0, 0) := by decide

/-- R54: a loss makes the record invalid. -/
theorem test_loss_notification :
    result .lossNotification { ready with pos := { ready.pos with
        record := ⟨9279, 1230, 4500, 0, true, false, some 9, 1⟩, inHand := some (.loss ⟨.armAngle, 20⟩) } }
      (fun t => (t.pos.record, t.pos.inHand)) = some (⟨9279, 1230, 4500, 0, false, false, some 9, 1⟩, none) := by decide

/-! ## Envelope (chapter 4) -/

/-- The bank of the worked slew approach of section 4.5: entry 0 from 27000 to 9000, α = 800. -/
def slewBank : Bank :=
  { defaultBank with
    header := { defaultHeader with decel := 800 }
    entries := defaultBank.entries.set 0 { defaultEnvelopeEntry with enabled := true, sectorFrom := 27000, sectorTo := 9000 }
    profiles := defaultBank.profiles.set 0
      { count := 4, thresholds := [3000, 1500, 500, 0] ++ List.replicate 12 0
        gains := [768, 512, 256, 0] ++ List.replicate 12 0 } }

/-- The SLEW+ target, the most restrictive entry, and D and breached of entry 0, at ψ and ω. -/
def slewRow (psi omega : Int) : Nat × Option Nat × Option EntryDistance :=
  let d := distanceOn slewBank ⟨true, false⟩ { resetPosition with psi := psi, omega := omega } 0
  (dirGet d.targets slewPos, dirGet d.restrictive slewPos, d.entries[0]?)

theorem test_slew_approach_inside :
    slewRow 4500 1200 = (1024, none, some ⟨true, 3600, false⟩) ∧ slewRow 6900 1000 = (512, some 0, some ⟨true, 1475, false⟩) ∧
    slewRow 8000 600 = (512, some 0, some ⟨true, 775, false⟩) ∧ slewRow 8700 300 = (256, some 0, some ⟨true, 243, false⟩) ∧
    slewRow 9000 0 = (256, some 0, some ⟨true, 0, false⟩) := by decide

theorem test_slew_approach_outside :
    slewRow 9050 80 = (0, some 0, some ⟨true, -50, false⟩) ∧ slewRow 9250 40 = (0, some 0, some ⟨true, -250, true⟩) := by
  decide

/-- The floor entry of the worked design grade of section 4.4. -/
def gradeEntry : EnvelopeEntry :=
  { defaultEnvelopeEntry with
    enabled := true, kind := .floor, sectorTo := 9000, limit := -3500, slope := -20, refRadius := 6000, margin := 300
    moves := dirTabulate fun d => decide (d = ⟨.boom, true⟩) }

theorem test_design_grade :
    approach ⟨true, true⟩ { resetPosition with r := 9279, h := 1230, psi := 4500, valid := true } defaultHeader gradeEntry =
      some ⟨[(⟨.boom, true⟩, 4495)], 4495, false⟩ ∧
    approach ⟨true, false⟩ { resetPosition with r := 9279, h := 1230, psi := 4500, valid := true } defaultHeader gradeEntry =
      none := by decide

/-- A valid position record at ψ and ω. -/
def turned (psi omega : Int) : PositionRecord := { resetPosition with psi := psi, omega := omega, valid := true }

/-- A position record of the slew approach in the hand of the envelope unit. -/
def slewing (psi omega : Int) (s : State) : State :=
  { s with
    cfg := { s.cfg with bank0 := slewBank }
    sig := { s.sig with records := { s.sig.records with
      slewAngle := ⟨psi, .fresh, some 0, 0⟩, slewRate := ⟨omega, .fresh, some 0, 0⟩ } }
    pos := { s.pos with record := turned psi omega }
    env := { s.env with inbox := ⟨some ⟨turned psi omega, []⟩, none⟩ } }

/-- The last row: the breach is reported. -/
theorem test_distance_computation :
    result .distanceComputation (slewing 9250 40 ready)
      (fun t => (dirGet t.env.distance.targets slewPos, t.env.distance.count, t.lim.events, t.env.inbox)) =
    some (0, 1, [.report ⟨.envelopeBreach, none, some 0, none, none⟩], ⟨none, none⟩) := by decide

/-- ACTIVATE_BANK waits for the condition at ψ 8800, ω 400 (first row of the worked example of section 4.7). -/
def widening (psi omega : Int) : State :=
  asked [5, 9, 0, 0, 0, 0, 0, 0]
    { slewing psi omega ready with
    cfg := { ready.cfg with
      bank0 := slewBank
      bank1 := { slewBank with entries := slewBank.entries.set 0 { slewBank.entryAt 0 with sectorTo := 10000 } } }
    env := { ready.env with distance := distanceOn slewBank ⟨true, false⟩ (turned psi omega) 0 } }

theorem test_activate_waits :
    result .activateBank (widening 8800 400) (fun t => (t.cfg.active, t.env.activation, t.mgt.progress, t.ports.a.tx)) =
    some (.bank0, some ⟨.a, 9, 0, false⟩, some ⟨.activateBank, .a, 9⟩, []) := by decide

/-- The last row, ψ 5000, ω −100: the banks swap and the request is answered OK (code 133, status 0). -/
theorem test_activate_swaps :
    result .activateBank (widening 5000 (-100))
      (fun t => (t.cfg.active, t.env.activation, t.ntc.messages, t.ports.a.tx.map fun e => e.data)) =
    some (.bank1, none, [.raise 10 1], [[133, 9, 0, 0, 0, 0, 0, 0]]) := by decide

/-- A waiting activation, begun at 0. -/
def awaiting (s : State) : State :=
  { s with
    env := { s.env with activation := some ⟨.a, 9, 0, false⟩, testAsked := true, inbox := ⟨none, none⟩ }
    mgt := { s.mgt with progress := some ⟨.activateBank, .a, 9⟩ } }

theorem test_activation_test :
    result .activationTest (awaiting (widening 8950 100)) (fun t => (t.cfg.active, t.env.activation.isSome, t.env.testAsked)) =
      some (.bank0, true, false) ∧
    result .activationTest (awaiting (widening 5000 (-100))) (fun t => (t.cfg.active, t.env.activation.isSome)) =
      some (.bank1, false) := by decide

/-- An activation that waits, BANK0 holding a ceiling of 0 that restricts no move, passed by 1000 mm; BANK1 limits nothing. -/
def overLimit : State :=
  let s := awaiting ready
  let tip := { turned 0 0 with h := 1000 }
  { s with
    cfg := { s.cfg with bank0 := { defaultBank with
      entries := defaultBank.entries.set 2 { defaultEnvelopeEntry with enabled := true, kind := .ceiling } } }
    pos := { s.pos with record := tip }
    env := { s.env with inbox := ⟨some ⟨tip, []⟩, none⟩ } }

/-- R78: a breach found while the activation waits keeps the banks from swapping, nothing being braked; the report then ends
the activation with NOT_ALLOWED (7). -/
theorem test_breach_ends_activation :
    result .distanceComputation overLimit (fun t => (t.cfg.active, t.env.activation, t.lim.events,
      (dirList t.env.distance.targets).all (· == 1024))) =
      some (.bank0, some ⟨.a, 9, 0, true⟩, [.report ⟨.envelopeBreach, none, some 2, none, none⟩], true) ∧
    (match exec .distanceComputation overLimit with
    | .next t => result .faultReport t fun u => (u.cfg.active, u.env.activation, u.ports.a.tx.map fun e => e.data)
    | _ => none) = some (.bank0, none, [[133, 9, 7, 0, 0, 0, 0, 0]]) := by decide

/-- R77: TIMEOUT (8) at 10 s; NOT_ALLOWED (7) when the limiter leaves NORMAL; CANCELLED (9) before CANCEL's own OK. -/
theorem test_activation_ends :
    result .activationTimeout { awaiting (widening 8950 100) with now := 10000 }
      (fun t => t.ports.a.tx.map fun e => e.data) = some [[133, 9, 8, 0, 0, 0, 0, 0]] ∧
    result .limiterLeftNormal (awaiting (widening 8950 100))
      (fun t => t.ports.a.tx.map fun e => e.data) = some [[133, 9, 7, 0, 0, 0, 0, 0]] ∧
    result .cancel (asked [6, 10, 0, 0, 0, 0, 0, 0] (awaiting ready))
      (fun t => (t.env.activation, t.mgt.progress, t.ports.a.tx.map fun e => e.data)) =
      some (none, none, [[134, 10, 0, 0, 0, 0, 0, 0]]) := by decide

/-- R71. -/
theorem test_copy_bank :
    result .copyBank (asked [4, 1, 0, 0, 0, 0, 0, 0] { ready with cfg := { ready.cfg with bank0 := slewBank } })
      (fun t => (decide (t.cfg.bank1 = slewBank), t.cfg.active, t.mgt.modified)) = some (true, .bank0, true) := by decide

/-! ## Shaping and guidance (chapter 5) -/

/-- The joystick frame of the worked example of section 5.2. -/
def joystick : State :=
  { ready with
    env := { ready.env with distance := { resetDistance with
      targets := { resetDistance.targets with boom := ⟨512, 1024⟩ } } }
    shp := { ready.shp with
      heldGains := { ready.shp.heldGains with boom := ⟨512, 1000⟩, arm := ⟨900, 1024⟩ }
      inbox := ⟨some (.command .a ⟨300, [4, 76, 254, 212, 0, 9, 7, 206]⟩ ⟨some 0, some 2, none, none, none, none⟩ (some 7)),
        none⟩ } }

theorem test_joystick :
    result .commandFrame joystick (fun t => (t.ports.b.tx.map fun e => e.data, t.shp.heldGains.boom, t.shp.heldGains.arm,
      t.shp.clampCount)) =
    some ([[1, 244, 254, 212, 0, 9, 7, 41]], ⟨512, 1024⟩, ⟨964, 1024⟩, 1) ∧
    result .commandFrame joystick (fun t => t.eco.commands) =
      some [⟨⟨1000, -300, 0, 0, 0, 0⟩, ⟨500, -300, 0, 0, 0, 0⟩⟩] := by decide

/-- Frames 4, 8 and 9 of the worked sequence of section 5.8: target, held gain before and raw value of SLEW+. -/
def leftStick (target held : Nat) (raw : Int) : State :=
  { ready with
    env := { ready.env with distance := { resetDistance with
      targets := { resetDistance.targets with slew := ⟨target, 1024⟩ } } }
    shp := { ready.shp with
      heldGains := { ready.shp.heldGains with slew := ⟨held, 1024⟩ }
      inbox := ⟨some (.command .a ⟨301, halfBytes (halfOfInt raw)⟩ ⟨none, none, none, some 0, none, none⟩ none), none⟩ } }

theorem test_slew_braked :
    result .commandFrame (leftStick 0 256 800) (fun t => (t.shp.heldGains.slew.pos, t.shp.lastShaped.slew,
      t.shp.hardStops.slew.pos, t.svc.hardStopReports)) = some (0, 0, true, 1) ∧
    result .commandFrame (leftStick 512 0 0) (fun t => t.shp.heldGains.slew.pos) = some 64 ∧
    result .commandFrame (leftStick 512 64 600) (fun t => (t.shp.heldGains.slew.pos, t.shp.lastShaped.slew)) =
      some (128, 75) ∧
    result .commandFrame (leftStick 512 128 600) (fun t => (t.shp.heldGains.slew.pos, t.shp.lastShaped.slew)) =
      some (192, 112) := by decide

/-- R89: entry into RESTRICTED lowers to the creep gain, entry into HOLD to 0. -/
theorem test_held_gain_lowering :
    result (.heldGainLowering .enterRestricted) joystick (fun t => t.shp.heldGains.boom) = some ⟨256, 256⟩ ∧
    result (.heldGainLowering .enterHold) joystick (fun t => t.shp.heldGains.boom) = some ⟨0, 0⟩ := by decide

/-- Byte 2 bit 2 of the console frame is grade hold (section 12.2). -/
theorem test_grade_hold_console :
    result .gradeHoldConsole { ready with shp := { ready.shp with inbox := ⟨some (.console [7, 8, 4, 255, 0]), none⟩ } }
      (fun t => (t.shp.gradeHold, t.shp.inbox)) = some (true, ⟨none, none⟩) := by decide

/-- Hand-off 2 of the worked example of section 5.5, with a guidance frame composed at 0 and the hand-off at `time`. -/
def onGrade (time : Time) : State :=
  { ready with
    cfg := { ready.cfg with bank0 := { defaultBank with entries := defaultBank.entries.set 5 gradeEntry } }
    shp := { ready.shp with
      gradeHold := true, lastGuidance := some 0, guidanceCounter := 3
      positions := [⟨⟨9279, -3530, 4500, 0, true, false, some 0, 1⟩, time⟩] } }

theorem test_guidance_in_band :
    result .guidanceHandOff (onGrade 99)
      (fun t => (t.shp.activeGrade, t.shp.tipToGrade, t.shp.inBand, t.ntc.messages, t.ports.a.tx.length)) =
    some (some 5, some 35, true, [.raise 9 5], 0) := by decide

/-- R96 to R98 and section 12.2: at 100 ms a frame: grade hold and R 9279, H −3530, tip-to-grade 35, counter 3 with limiter
NORMAL and valid. 128 + 36 is 164; byte 6 is 3 + 16 + 64. -/
theorem test_guidance_frame :
    result .guidanceHandOff (onGrade 100)
      (fun t => (t.ports.a.tx.map fun e => e.data, t.shp.guidanceCounter, t.shp.lastGuidance)) =
    some ([[164, 63, 242, 54, 0, 35, 83, 127]], 4, some 100) := by decide

/-! ## Limiter supervision (chapter 6) -/

/-- A breach report of entry 0, and the record that the worked example of section 6.8 opens for it. -/
def breach : FaultReport := ⟨.envelopeBreach, none, some 0, none, none⟩
def breachRecord : FaultRecord := ⟨17, .envelopeBreach, none, some 0, 41200, 9279, 1230, 9250, true, .normal, 0, .none⟩

/-- The part of that example at 41200, with reports waiting. -/
def coasting (x : LimiterUnit) (es : List LimiterEvent) : State :=
  { partIn { x with lastTag := 16, events := es } with
    now := 41200
    pos := { ready.pos with record := ⟨9279, 1230, 9250, 0, true, false, some 41200, 5⟩ } }

/-- All five position signals FRESH. -/
def allFresh (s : State) : State :=
  { s with sig := { s.sig with records := PerRole.tabulate fun _ => ⟨0, .fresh, some 0, 0⟩ } }

theorem test_fault_report_opens :
    result .faultReport (coasting { resetLimiter with state := .normal, startupSince := none } [.report breach])
      (fun t => (t.lim.state, t.lim.openRecord, t.lim.history, t.ntc.messages)) =
    some (.restricted, some breachRecord, [breachRecord], [.raise 2 17]) := by decide

/-- In RESTRICTED under record 17. -/
def restricted (es : List LimiterEvent) : State :=
  { coasting { resetLimiter with
      state := .restricted, startupSince := none, openRecord := some breachRecord, history := [breachRecord] } es with
    lim := { resetLimiter with
      state := .restricted, startupSince := none, openRecord := some breachRecord, history := [breachRecord]
      lastTag := 17, events := es } }

/-- A match is a repeat; a POSITION_LOST is a second fault and enters HOLD with PILOT_CUT. -/
theorem test_fault_report_in_restricted :
    result .faultReport (restricted [.report breach]) (fun t => (t.lim.state, t.lim.openRecord.map fun f => f.repeats)) =
      some (.restricted, some 1) ∧
    result .faultReport (restricted [.report ⟨.positionLost, some .boomAngle, none, none, some 0⟩])
      (fun t => (t.lim.state, t.lim.secondRecord.map fun f => (f.tag, f.stateBefore), t.pilotCut, t.ntc.messages,
        t.sto.checkpointDue)) =
      some (.hold, some (19 - 1, .restricted), true, [.raise 0 18], true) := by decide

/-- A console frame with acknowledgement tag 71, and with 17 while the condition is absent. -/
theorem test_fault_acknowledgement :
    result .faultAcknowledgement { restricted [] with lim := { (restricted []).lim with inbox := ⟨some [0, 0, 0, 255, 71], none⟩ } }
      (fun t => (t.lim.state, t.lim.ackMismatch)) = some (.restricted, 1) ∧
    result .faultAcknowledgement
      (allFresh { restricted [] with lim := { (restricted []).lim with inbox := ⟨some [0, 0, 0, 255, 17], none⟩ } })
      (fun t => (t.lim.state, t.lim.openRecord, t.lim.history.map fun f => (f.tag, f.closed))) =
      some (.normal, none, [(17, .acked)]) := by decide

/-- R102: the first valid, unclamped record ends STARTUP; a clamped one does not. -/
theorem test_limiter_position :
    result .limiterPositionTest (partIn { resetLimiter with events := [.position (turned 0 0)] })
      (fun t => (t.lim.state, t.lim.startupSince)) = some (.normal, none) ∧
    result .limiterPositionTest (partIn { resetLimiter with events := [.position { turned 0 0 with clamped := true }] })
      (fun t => (t.lim.state, t.lim.startupSince)) = some (.startup, some 0) := by decide

/-- R103: at 5000 ms a POSITION_LOST record that names BOOM_ANGLE, the first role that is not usable. -/
theorem test_startup_timer :
    result .startupTimerExpiry { partIn resetLimiter with now := 5000 }
      (fun t => (t.lim.state, t.lim.openRecord.map fun f => (f.tag, f.kind, f.role))) =
      some (.restricted, some (1, .positionLost, some .boomAngle)) ∧
    result .startupTimerExpiry { partIn resetLimiter with now := 4999 } (fun t => t.lim.state) = some .startup := by decide

/-- In HOLD under records 17 and 18, with FAULT_RELEASE in hand. -/
def held : State :=
  asked [10, 1, 0, 0, 0, 0, 0, 0]
    (allFresh { restricted [] with
      pilotCut := true
      lim := { (restricted []).lim with state := .hold, secondRecord := some { breachRecord with tag := 18, entry := some 4 } } })

/-- R114: refused with reason 2 without MAINT_EN, and released with it (code 138, NOT_ALLOWED 7). -/
theorem test_fault_release :
    result (.faultRelease false) held (fun t => (t.lim.state, t.ports.a.tx.map fun e => e.data)) =
      some (.hold, [[138, 1, 7, 2, 0, 0, 0, 0]]) ∧
    result (.faultRelease true) held (fun t => (t.lim.state, t.pilotCut, t.lim.openRecord, t.lim.secondRecord)) =
      some (.normal, false, none, none) := by decide

/-! ## Engine economy (chapter 7) -/

/-- The worked example of section 7.4: dial 1800 in ECO, and a notification of BOOM 400, ARM 600, SLEW 400. -/
def demanding (mode : PowerMode) (limp : Bool) : State :=
  { ready with eco := { ready.eco with
      dial := some 1800, mode := mode, limp := limp
      commands := [⟨⟨400, 600, 0, 400, 0, 0⟩, ⟨400, 600, 0, 400, 0, 0⟩⟩] } }

theorem test_target_from_demand :
    result .economyCommandNotify (demanding .eco false) (fun t => (t.eco.demand, t.eco.target)) =
      some (400, some ⟨1500, .eco⟩) ∧
    result .economyCommandNotify (demanding .full false) (fun t => t.eco.target) = some (some ⟨1800, .dial⟩) ∧
    result .economyCommandNotify (demanding .eco true) (fun t => t.eco.target) = some (some ⟨1300, .limp⟩) ∧
    result .economyCommandNotify (demanding .full true) (fun t => t.eco.target) = some (some ⟨1300, .limp⟩) := by decide

/-- The request goes out under tag 1: 1500 is 5, 220; reason ECO 2; 1 + 5 + 220 + 2 + 28 = 256. -/
theorem test_target_requested :
    result .economyCommandNotify (demanding .eco false)
      (fun t => (t.ports.b.tx.map fun e => e.data, t.eng.entries.map fun e => (e.tag, e.expiry), t.eco.lastIssued)) =
    some ([[1, 5, 220, 2, 0, 0, 0, 28]], [(1, 250)], some ⟨1500, .eco⟩) := by decide

/-- The curve values of the worked example of section 7.7. -/
theorem test_curve :
    curveValue defaultEconomy 400 = 1500 ∧ curveValue defaultEconomy 420 = 1520 ∧ curveValue defaultEconomy 430 = 1530 ∧
    curveValue defaultEconomy 750 = 1816 ∧ curveValue defaultEconomy 760 = 1820 := by decide

/-- R123: a dial of 800 is counted, and the target is the idle speed 900. -/
theorem test_economy_console :
    result .economyConsole { ready with eco := { ready.eco with inbox := ⟨some [3, 32, 3, 255, 0], none⟩ } }
      (fun t => (t.eco.dial, t.eco.mode, t.eco.autoIdleOn, t.eco.dialClamps, t.eco.target)) =
    some (some 800, .full, true, 1, some ⟨900, .dial⟩) := by decide

/-- Standing still: auto-idle on, ENGINE_SPEED FRESH, the last slew rate 0. -/
def standing (v : EconomyUnit) : State :=
  { ready with
    now := 7000
    sig := { ready.sig with records := { ready.sig.records with engineSpeed := ⟨900, .fresh, some 7000, 0⟩ } }
    eco := v }

def stillEconomy : EconomyUnit := { resetEconomy with dial := some 1800, autoIdleOn := true, lastSlew := some 0 }

/-- R131, R134: the acceptances start the timer at the event; a slew rate of 50 does not; the loss stops it. -/
theorem test_auto_idle_timer :
    result .slewRateAcceptance (standing { stillEconomy with slewRates := [49] }) (fun t => (t.eco.timer, t.eco.lastSlew)) =
      some (some 7000, some 49) ∧
    result .slewRateAcceptance (standing { stillEconomy with slewRates := [50] }) (fun t => t.eco.timer) = some none ∧
    result .engineSpeedAcceptance (standing { stillEconomy with speeds := [900] }) (fun t => t.eco.timer) =
      some (some 7000) ∧
    result .engineSpeedLoss (standing { stillEconomy with timer := some 6000, speedLosses := [7000] })
      (fun t => t.eco.timer) = some none := by decide

/-- R132: the delay of 5 s since 2000 has run. -/
theorem test_auto_idle_expiry :
    result .autoIdleExpiry (standing { stillEconomy with timer := some 2000 }) (fun t => (t.eco.state, t.eco.target)) =
      some (.autoIdle, some ⟨900, .idle⟩) ∧
    result .autoIdleExpiry (standing { stillEconomy with timer := some 2001 }) (fun t => t.eco.state) = some .run := by
  decide

/-- R128: limp engages for item 3; LIMP_MODE is raised and a request made. -/
theorem test_limp_change :
    result .limpChange { demanding .full false with
        eco := { (demanding .full false).eco with limpChanges := [.engage 3] } }
      (fun t => (t.eco.limp, t.eco.target, t.ntc.messages, t.eng.entries.length)) =
    some (true, some ⟨1300, .limp⟩, [.raise 5 3], 1) := by decide

/-! ## Engine request queue (chapter 8) -/

/-- The queue of the worked sequence of section 8.7 with the given entries and last tag, and a reply in hand. -/
def engaged (now : Time) (es : List EngineEntry) (last : Nat) (reply : Option (List Byte)) : State :=
  { ready with now := now, eng := { ready.eng with entries := es, lastTag := last, inbox := ⟨reply, none⟩ } }

/-- Tag 42 at 120. -/
theorem test_reply_skips_older :
    result .engineReplyTaken (engaged 120 [⟨41, ⟨1500, .eco⟩, 0, false, false, 250⟩, ⟨42, ⟨1800, .dial⟩, 40, false, false, 290⟩]
      42 (some [42, 1, 7, 8])) (fun t => (t.eng.entries.length, t.eng.skipped, t.eng.lastReply)) =
    some (0, 1, some ⟨42, 1, 1800, 120⟩) := by decide

/-- Tag 44 at 2000: 45 becomes the oldest with its instant passed, and is reissued as 46. -/
theorem test_reply_then_timeout :
    result .engineReplyTaken (engaged 2000 [⟨44, ⟨1530, .eco⟩, 450, true, true, 5600⟩, ⟨45, ⟨1190, .eco⟩, 1100, false, false, 1350⟩]
      45 (some [44, 1, 0, 0])) (fun t => (t.eng.entries, t.eng.reissued, t.ports.b.tx.length)) =
    some ([⟨46, ⟨1190, .eco⟩, 2000, true, false, 2250⟩], 1, 1) := by decide

/-- The timeout of 43 at 450, and of a second attempt. -/
theorem test_engine_timeout :
    result .engineRequestTimeout (engaged 450 [⟨43, ⟨1530, .eco⟩, 200, false, false, 450⟩] 43 none) (fun t => t.eng.entries) =
      some [⟨44, ⟨1530, .eco⟩, 450, true, false, 700⟩] ∧
    result .engineRequestTimeout (engaged 700 [⟨44, ⟨1530, .eco⟩, 450, true, false, 700⟩] 44 none)
      (fun t => (t.eng.entries.length, t.eco.state, t.eng.linkFault, t.ntc.messages)) =
      some (0, .fallback, 1, [.raise 4 1530]) := by decide

/-! ## Service reminders and the counter store (chapter 9) -/

/-- Item 3 of the worked example of section 9.8. -/
def greaseItem : ItemDef := ⟨true, 4102, .slewTravel, 360000000, 36000000, 18000000, false⟩

/-- The part with that item, with A and the angles of a notification given. -/
def slewRing (a : Nat) (previous value : Int) : State :=
  { ready with
    cfg := { ready.cfg with items := ready.cfg.items.set 3 greaseItem }
    svc := { ready.svc with
      totals := { ready.svc.totals with slewTravel := 1851220450 }
      items := ready.svc.items.set 3 { resetItem with accumulator := a, condition := (if a < 324000000 then .ok else .dueSoon) }
      notes := [⟨some ⟨some previous, value⟩, []⟩] } }

/-- A, SLEW_TRAVEL, state and raises. -/
def slewRingFigures (t : State) : Nat × Nat × ItemCondition × List NoticeMessage :=
  ((t.svc.item 3).accumulator, t.svc.totals.slewTravel, (t.svc.item 3).condition, t.ntc.messages)

theorem test_slew_travel_across_zero :
    result .slewTravelAdvance (slewRing 323999700 35900 100) slewRingFigures = some (323999900, 1851220650, .ok, []) := by
  decide

/-- The row of 35800; SLEW_TRAVEL counts its 300 from the example's start. -/
theorem test_slew_travel_into_due_soon :
    result .slewTravelAdvance (slewRing 323999900 100 35800) slewRingFigures =
      some (324000200, 1851220750, .dueSoon, [.raise 15 1]) := by decide

theorem test_slew_travel_half_turn :
    result .slewTravelAdvance (slewRing 324000200 35800 17800) slewRingFigures =
      some (324018200, 1851238450, .dueSoon, []) := by decide

/-- R154, R157: a second at engine speed 400 and load 80 weighs 200; at 399 nothing runs. -/
def second (rpm : Int) : State :=
  { ready with
    now := 1000
    sig := { ready.sig with records := { ready.sig.records with
      engineSpeed := ⟨rpm, .fresh, some 900, 0⟩, engineLoad := ⟨80, .fresh, some 900, 0⟩
      pumpPress1 := ⟨30000, .fresh, some 900, 0⟩ } } }

theorem test_one_second :
    result .oneSecondTick (second 400) (fun t => (t.svc.totals, t.svc.intervalCount, t.svc.nextSecond)) =
      some (⟨1, 200, 1, 0, 0⟩, 1, 2000) ∧
    result .oneSecondTick (second 399) (fun t => (t.svc.totals, t.svc.intervalCount)) = some (⟨0, 0, 1, 0, 0⟩, 0) := by
  decide

theorem test_hard_stops :
    result .hardStopsAdvance { ready with svc := { ready.svc with hardStopReports := 2 } }
      (fun t => (t.svc.totals.hardStops, t.svc.hardStopReports)) = some (1, 1) := by decide

theorem test_checkpoint_interval :
    result .checkpointInterval { ready with svc := { ready.svc with intervalCount := 360 } }
      (fun t => (t.svc.intervalCount, t.sto.checkpointDue)) = some (0, true) := by decide

/-- R159: the reminder of an OVERDUE item (code 3) raises its source again. -/
theorem test_reminder :
    result (.reminderExpiry 3) { slewRing 378000000 0 0 with svc := { ready.svc with
        items := ready.svc.items.set 3 ⟨378000000, 0, .overdue, some 3600, true⟩ } }
      (fun t => ((t.svc.item 3).reminder, (t.svc.item 3).reminderDue, t.ntc.messages)) =
    some (some 0, false, [.raise 15 3]) := by decide

theorem test_power_warning :
    result (.pwrWarnAsserted true) ready (fun t => (t.pwrWarn, t.sto.checkpointDue)) = some (true, true) := by decide

/-- R167: the area's stored check is invalid while it is written, and good afterwards. -/
theorem test_checkpoint :
    result .checkpointStart { ready with sto := { ready.sto with checkpointDue := true } }
      (fun t => (t.sto.counterArea.isNone, t.sto.checkpointDue, writingCounters t.sto)) = some (true, false, true) ∧
    result .checkpointComplete { ready with sto := { ready.sto with activity := .writingCounters (counterImage ready) } }
      (fun t => (t.sto.counterArea.isSome, t.sto.checkpointCount, writingCounters t.sto)) = some (true, 1, false) := by decide

/-- R162: SERVICE_DONE for item 3 (code 137). -/
theorem test_service_done :
    result (.serviceDone true) (asked [9, 7, 3, 0, 0, 0, 0, 0] (slewRing 324018200 0 0))
      (fun t => ((t.svc.item 3).accumulator, (t.svc.item 3).services, (t.svc.item 3).condition,
        t.svc.history.map fun e => e.accumulator)) = some (0, 1, .ok, [324018200]) ∧
    result (.serviceDone true) (asked [9, 7, 3, 0, 0, 0, 0, 0] (slewRing 324018200 0 0))
      (fun t => t.ports.a.tx.map fun e => e.data) = some [[137, 7, 0, 0, 0, 0, 0, 0]] ∧
    result (.serviceDone false) (asked [9, 7, 3, 0, 0, 0, 0, 0] (slewRing 324018200 0 0))
      (fun t => ((t.svc.item 3).accumulator, t.ports.a.tx.map fun e => e.data)) =
      some (324018200, [[137, 7, 2, 0, 0, 0, 0, 0]]) := by decide

/-! ## Notices (chapter 10) -/

/-- The notice unit of the worked sequence of section 10.7: its slot, the sources that are pending with an argument, and those
whose enable is cleared. -/
def noticing (slot : Option Notice) (pending : List (Nat × Nat)) (cleared : List Nat) (mute : Bool) (counter : Nat)
    (ms : List NoticeMessage) (console : Option (List Byte)) : State :=
  { ready with
    cfg := { ready.cfg with items := ready.cfg.items.set 3 { defaultItem with code := 4102 } }
    ntc := { ready.ntc with
      sources := (List.range 44).map fun i =>
        ⟨(pending.lookup i).isSome, !cleared.contains i, (pending.lookup i).getD 0⟩
      slot := slot, mute := mute, counter := counter, messages := ms, inbox := ⟨console, none⟩ } }

/-- Slot, the sources pending and the enables cleared, the data of the frames sent on port A. -/
def noticeFigures (t : State) : Option Notice × List (List Nat) × List (List Byte) :=
  (t.ntc.slot, [(List.range 44).filter (fun i => (t.ntc.source i).pending),
    (List.range 44).filter (fun i => !(t.ntc.source i).enabled)], t.ports.a.tx.map fun e => e.data)

/-- Step 1. 4102 is 16, 6; the frame is 15, new (2), DUE (2), the code, counter 4. -/
theorem test_notice_posted :
    result .noticeRaise (noticing none [] [] false 4 [.raise 15 2] none) noticeFigures =
      some (some ⟨15, 2⟩, [[], [15]], [[15, 2, 0, 2, 16, 6, 4, 211]]) := by decide

/-- Step 4. -/
theorem test_notice_preempted :
    result .noticeRaise (noticing (some ⟨15, 2⟩) [(9, 5)] [15] false 6 [.raise 2 17] none) noticeFigures =
      some (some ⟨2, 17⟩, [[9, 15], [2]], [[2, 3, 0, 17, 0, 0, 6, 228]]) := by decide

/-- Step 6. -/
theorem test_notice_acknowledged :
    result .noticeConsole (noticing (some ⟨2, 17⟩) [(9, 5), (15, 2)] [2] false 8 [] (some [0, 0, 8, 2, 0])) noticeFigures =
      some (none, [[9, 15], []], [[255, 0, 0, 0, 0, 0, 8, 249]]) := by decide

/-- Step 9. -/
theorem test_notice_next :
    result .noticeConsole (noticing (some ⟨9, 5⟩) [(15, 3)] [9] false 10 [] (some [0, 0, 0, 9, 0])) noticeFigures =
      some (some ⟨15, 3⟩, [[], [15]], [[15, 2, 0, 3, 16, 6, 10, 204]]) := by decide

/-- R180: a non-maskable source is NOT_ALLOWED (7); a set enable posts. -/
theorem test_set_notice_enable :
    result .setNoticeEnable (asked [15, 1, 3, 0, 0, 0, 0, 0] ready) (fun t => t.ports.a.tx.map fun e => e.data) =
      some [[143, 1, 7, 0, 0, 0, 0, 0]] ∧
    result .setNoticeEnable (asked [15, 1, 9, 1, 0, 0, 0, 0] (noticing none [(9, 5)] [9] false 0 [] none))
      (fun t => t.ntc.slot) = some (some ⟨9, 5⟩) := by decide

/-! ## Management requests (chapter 11) -/

/-- The data of the replies sent on port A. -/
def replies (t : State) : List (List Byte) := t.ports.a.tx.map fun e => e.data

/-- R183, R184: seven bytes are counted and not answered; code 16 is BAD_CODE (3). -/
theorem test_no_request :
    result .shortFrame (asked [1, 1, 0, 0, 0, 0, 0] ready) (fun t => (t.mgt.shortFrames, replies t)) = some (1, []) ∧
    result .unknownRequest (asked [16, 1, 0, 0, 0, 0, 0, 0] ready) replies = some [[144, 1, 3, 0, 0, 0, 0, 0]] := by decide

theorem test_identify :
    result .identify (asked [1, 1, 0, 0, 0, 0, 0, 0] ready) replies = some [[129, 1, 0, 126, 5, 3, 0, 0]] ∧
    result .identify (asked [1, 1, 2, 0, 0, 0, 0, 0] ready) replies = some [[129, 1, 5, 0, 0, 0, 0, 0]] := by decide

/-- SINE is table 4: S[30] is 16384, which is 64, 0. -/
theorem test_read_field :
    result .readField (asked [2, 1, 4, 30, 0, 0, 0, 0] ready) replies = some [[130, 1, 0, 64, 0, 0, 0, 0]] ∧
    result .readField (asked [2, 1, 4, 91, 0, 0, 0, 0] ready) replies = some [[130, 1, 5, 0, 0, 0, 0, 0]] := by decide

/-- S[30] becomes 16385; without MAINT_EN the write is LOCKED (2). -/
theorem test_write_field :
    result (.writeField true) (asked [3, 1, 4, 30, 0, 0, 64, 1] ready)
      (fun t => (t.cfg.sine.getD 30 0, t.mgt.modified, replies t)) = some (16385, true, [[131, 1, 0, 0, 0, 0, 0, 0]]) ∧
    result (.writeField false) (asked [3, 1, 4, 30, 0, 0, 64, 1] ready)
      (fun t => (t.cfg.sine.getD 30 0, t.mgt.modified, replies t)) = some (16384, false, [[131, 1, 2, 0, 0, 0, 0, 0]]) := by
  decide

/-- Fault record 17 in the history, part 2: tag 17, R 9279 (36, 63), H 1230 (4, 206). -/
theorem test_read_fault :
    result .readFault (asked [11, 1, 0, 2, 0, 0, 0, 0] (restricted [])) replies =
      some [[139, 1, 0, 17, 36, 63, 4, 206]] ∧
    result .readFault (asked [11, 1, 1, 2, 0, 0, 0, 0] (restricted [])) replies =
      some [[139, 1, 5, 0, 0, 0, 0, 0]] := by decide

/-- Part 0 of the newest entry: item 3, code 4102 (16, 6). -/
theorem test_read_service_history :
    result .readServiceHistory (asked [12, 1, 0, 0, 0, 0, 0, 0]
      { ready with svc := { ready.svc with history := [⟨3, 4102, 5, 6, 7⟩] } }) replies =
    some [[140, 1, 0, 3, 16, 6, 0, 0]] := by decide

/-- Port B, part 0: RX_OVERFLOW 258 and MALFORMED 3. -/
theorem test_read_stats :
    result .readStats (asked [13, 1, 1, 0, 0, 0, 0, 0]
      { ready with ports := ⟨resetPort, { resetPort with stats := ⟨258, 3, 0, 0, 0, 0, 0, 0⟩ }⟩ }) replies =
    some [[141, 1, 0, 1, 2, 0, 3, 0]] := by decide

theorem test_clear_stats :
    result .clearStats (asked [14, 1, 0, 0, 0, 0, 0, 0]
      { ready with ports := ⟨resetPort, { resetPort with stats := ⟨258, 3, 0, 0, 0, 0, 0, 0⟩ }⟩ })
      (fun t => (t.ports.b.stats, replies t)) = some (clearedStats, [[142, 1, 0, 0, 0, 0, 0, 0]]) := by decide

/-! ## The configuration area, reset and start-up -/

/-- STORE: accepted, written, answered (code 135). -/
theorem test_store :
    result (.store true) (asked [7, 4, 0, 0, 0, 0, 0, 0] ready)
      (fun t => (t.sto.storeWaiting.isSome, t.mgt.progress, replies t)) = some (true, some ⟨.store, .a, 4⟩, []) ∧
    result .storeWriteStart { ready with sto := { ready.sto with storeWaiting := some (imageOf defaultTables) } }
      (fun t => (writingConfig t.sto, t.sto.storeWaiting.isSome)) = some (true, false) ∧
    result .storeComplete { ready with
        sto := { ready.sto with activity := .writingConfig (imageOf defaultTables) }
        mgt := { ready.mgt with progress := some ⟨.store, .a, 4⟩, modified := true } }
      (fun t => (t.sto.configArea.isSome, t.mgt.progress, t.mgt.modified, replies t)) =
      some (true, none, false, [[135, 4, 0, 0, 0, 0, 0, 0]]) := by decide

/-- RELOAD: accepted, read, and refused BAD_VALUE (6) on an area that fails its check. -/
theorem test_reload :
    result (.reload true) (asked [8, 4, 0, 0, 0, 0, 0, 0] ready) (fun t => (t.sto.reloadWaiting, t.mgt.progress)) =
      some (true, some ⟨.reload, .a, 4⟩) ∧
    result .reloadReadStart { ready with sto := { ready.sto with reloadWaiting := true } }
      (fun t => (decide (t.sto.activity = .readingConfig), t.sto.reloadWaiting)) = some (true, false) ∧
    result .reloadReadEnd { ready with
        sto := { ready.sto with activity := .readingConfig }
        mgt := { ready.mgt with progress := some ⟨.reload, .a, 4⟩ } }
      (fun t => (t.mgt.progress, t.lim.state, replies t)) = some (none, .normal, [[136, 4, 6, 0, 0, 0, 0, 0]]) := by decide

/-- The end of the read of a RELOAD, the built-in tables stored with a good check. -/
def readDefaults : State :=
  { ready with
    sto := { ready.sto with activity := .readingConfig, configArea := some (storedConfig (imageOf defaultTables)) }
    mgt := { ready.mgt with progress := some ⟨.reload, .a, 4⟩ } }

/-- Their geometry is invalid, so the limiter opens a GEOMETRY_INVALID record. -/
theorem test_reload_applies :
    result .reloadReadEnd readDefaults (fun t => (t.lim.state, t.lim.openRecord.map fun f => f.kind, replies t)) =
    some (.restricted, some .geometryInvalid, [[136, 4, 0, 0, 0, 0, 0, 0]]) := by
  have h : exec .reloadReadEnd readDefaults = .next (endReload readDefaults) := rfl
  rw [result, h, endReload_stored readDefaults (imageOf defaultTables) rfl rfl (by decide)]
  decide +kernel

/-- R192: RESET asserts PILOT_CUT; full reset negates it; loss of power ends everything. -/
theorem test_reset_and_power :
    result .resetAsserted ready (fun t => (t.phase, t.pilotCut)) = some (.resetHeld, true) ∧
    result (.fullReset true) held (fun t => (t.phase, t.pilotCut, t.pwrWarn, t.lim.state)) =
      some (.startUp, false, true, .startup) ∧
    result .lossOfPower ready (fun t => t.phase) = some .off := by decide

/-- R168, R169, R192: both areas never written. -/
theorem test_start_up :
    result .startUpReadsComplete State.reset (fun t => (t.phase, t.lim.state, t.mgt.defaultsInUse)) =
      some (.running, .restricted, true) ∧
    result .startUpReadsComplete State.reset (fun t => (t.lim.openRecord.map fun f => (f.tag, f.kind), t.ntc.messages)) =
      some (some (1, .geometryInvalid), [.raise 3 0, .raise 6 0, .raise 1 1]) := by decide +kernel

/-! ## States that meet the hypotheses of the statements

One theorem `meets_…` for each statement with hypotheses, with its clauses at the values where they begin and end. -/

/-- A waiting command runs; on an empty queue the part time goes on, from 4294967295 to 0 (section 0.6). -/
theorem test_step :
    (match step { ready with pending := [.lossOfPower, .identify] } with
      | .next t => decide (t.phase = .off ∧ t.pending = [.identify])
      | _ => false) = true ∧
    (match step { ready with now := 4294967295 } with
      | .next t => decide (t.now = 0)
      | _ => false) = true := by decide

theorem economyOk_default : EconomyOk defaultEconomy := by unfold EconomyOk; decide

/-- The tables of the worked examples: the links of chapter 3, the bank of chapter 4, the item of chapter 9. -/
def exampleTables : Tables :=
  { defaultTables with
    frame := defaultTables.frame.set 12 inclinometer
    geometry := ⟨8500, 4200, 2100, 1200, 2900⟩
    bank0 := slewBank
    items := defaultTables.items.set 3 greaseItem }

theorem tablesOk_example : TablesOk exampleTables := by
  refine ⟨rfl, ?_, ?_, ?_, rfl, by decide, ⟨?_, rfl, rfl, ?_, ?_⟩, ⟨?_, rfl, rfl, ?_, ?_⟩, economyOk_default, ?_, rfl, ?_, ?_⟩ <;>
    (simp only [FrameEntryOk, SignalEntryOk, GeometryOk, HeaderOk, EnvelopeEntryOk, ProfileOk, ServiceOk, ItemDefOk, IdentityOk]
     decide +kernel)

theorem meets_StepRunsTheFrontCommand :
    ({ ready with pending := [.forwardFrame, .identify] } : State).pending = .forwardFrame :: [.identify] := rfl

theorem meets_QueueNeitherReadNorChanged : ∃ t, exec .checkpointInterval ready = .next t := ⟨_, rfl⟩

theorem meets_NothingHappensWithoutPowerOrUnderReset :
    (ready.pending = [] ∧ (ready.phase = .running ∨ ready.phase = .startUp)) ∧
    (State.reset.pending = [] ∧ (State.reset.phase = .running ∨ State.reset.phase = .startUp)) ∧
    (∃ s : State, s.pending = [] ∧ s.phase = .off) ∧ (∃ s : State, s.pending = [] ∧ s.phase = .resetHeld) ∧
    Instr.forwardFrame ≠ .resetAsserted ∧ (∀ w, Instr.forwardFrame ≠ .fullReset w) ∧ Instr.forwardFrame ≠ .lossOfPower :=
  ⟨by decide, by decide, ⟨{ ready with phase := .off }, rfl, rfl⟩, ⟨{ ready with phase := .resetHeld }, rfl, rfl⟩,
    by decide, by decide, by decide⟩

/-- Port B of `ready` replaced. -/
def portB (p : PortState) : State := { ready with ports := ⟨resetPort, p⟩ }

theorem meets_ReceivedFrameIsStoredOrCounted :
    State.reset.phase = .startUp ∧ (State.reset.ports.get .b).bus = .onBus ∧
    (∃ s : State, s.phase = .startUp ∧ (s.ports.get .b).bus = .busOff) ∧ ready.phase = .running ∧
    (∃ f : BusFrame, f.checkGood = true ∧ f.extended = true ∧ f.remote = false ∧ f.data.length = 8) ∧
    (∃ f : BusFrame, ¬(f.checkGood = true ∧ f.extended = true ∧ f.remote = false ∧ f.data.length ≤ 8)) ∧
    ((portB { resetPort with rx := List.replicate 31 ⟨7, []⟩ }).ports.get .b).rx.length < 32 ∧
    32 ≤ ((portB { resetPort with rx := List.replicate 32 ⟨7, []⟩ }).ports.get .b).rx.length ∧
    ((portB { resetPort with bus := .busOff }).ports.get .b).bus = .busOff ∧ (ready.ports.get .b).bus = .onBus :=
  ⟨rfl, rfl, ⟨{ State.reset with ports := ⟨resetPort, { resetPort with bus := .busOff }⟩ }, rfl, rfl⟩, rfl,
    ⟨⟨true, false, true, 7, List.replicate 8 0⟩, by decide⟩, ⟨⟨true, false, true, 7, List.replicate 9 0⟩, by decide⟩,
    by decide, by decide, rfl, rfl⟩

theorem meets_PortAttemptsTheLowestIdentifierAndRecovers :
    ((portB { resetPort with tx := [waitingEntry .own 20, waitingEntry .own 10, waitingEntry .forwarded 10] }).ports.get .b).tx =
      [waitingEntry .own 20] ++ waitingEntry .own 10 :: [waitingEntry .forwarded 10] ∧
    (∀ x ∈ [waitingEntry .own 20], (waitingEntry .own 10).ident.toNat < x.ident.toNat) ∧
    (∀ x ∈ [waitingEntry .forwarded 10], (waitingEntry .own 10).ident.toNat ≤ x.ident.toNat) ∧
    (∀ x ∈ [waitingEntry .own 20] ++ waitingEntry .own 10 :: [waitingEntry .forwarded 10], x.attempting = false) ∧
    ((portB { resetPort with bus := .busOff, idleSince := some 100 }).ports.get .b).idleSince = some 100 ∧
    500 ≤ ((600 : Time) - 100).toNat ∧ ((599 : Time) - 100).toNat < 500 := by decide

theorem meets_AttemptEndsByItsResult :
    ([waitingEntry .own 20] ++ ⟨.own, 10, [], true, true⟩ :: [waitingEntry .own 30] : List TxEntry) =
      ((portB { resetPort with
        tx := [waitingEntry .own 20, ⟨.own, 10, [], true, true⟩, waitingEntry .own 30], tally := 247 }).ports.get .b).tx ∧
    (∀ x ∈ [waitingEntry .own 20] ++ [waitingEntry .own 30], x.attempting = false) ∧
    ((portB { resetPort with tally := 247 }).ports.get .b).tally + 8 < 256 ∧
    256 ≤ ((portB { resetPort with tally := 248 }).ports.get .b).tally + 8 := by decide

/-- A state with a frame and a queued entry, and the command that takes the frame. -/
def crossing : State :=
  { ready with
    pending := [.forwardFrame]
    ports := ⟨{ resetPort with tx := [waitingEntry .own 10] }, { resetPort with rx := [⟨700, [1]⟩] }⟩ }

theorem meets_EveryStepKeepsThePortsSound : PortsOk crossing ∧ ∃ t, step crossing = .next t := by
  refine ⟨?_, _, rfl⟩
  unfold PortsOk PortOk StatsOk waitingKeys
  decide

/-! ### Forwarding -/

/-- The part with one frame table entry, entry 0, of a given action, and a frame arrived on port B that it matches. -/
def oneEntry (a : Action) (last : Option Nat) (d : List Byte) : State :=
  arrived ⟨700, d⟩ { ready with
    cfg := { ready.cfg with frame := ready.cfg.frame.set 0 { inclinometer with action := a } }
    fwd := { ready.fwd with screening := ready.fwd.screening.set 0 ⟨last, 0⟩ } }

theorem nextFrame_oneEntry (a : Action) (last : Option Nat) (d : List Byte) :
    NextFrame (oneEntry a last d) .b ⟨700, d⟩ [] := ⟨rfl, rfl, rfl, .inl rfl⟩

theorem firstMatch_oneEntry (a : Action) (last : Option Nat) (d : List Byte) :
    FirstMatch (oneEntry a last d).cfg.frame .b 700 0 { inclinometer with action := a } :=
  ⟨rfl, by cases a <;> decide, fun _ _ h => absurd h (by omega)⟩

/-- A management frame, and a frame that no entry matches, at port B. -/
def unmatched (i : CanId) (x : Inbox ManagementFrame) (d : DefaultAction) : State :=
  arrived ⟨i, [1, 1]⟩ { ready with
    cfg := { ready.cfg with identity := { ready.cfg.identity with defaultAction := d } }
    mgt := { ready.mgt with inbox := x } }

theorem nextFrame_unmatched (i : CanId) (x : Inbox ManagementFrame) (d : DefaultAction) :
    NextFrame (unmatched i x d) .b ⟨i, [1, 1]⟩ [] := ⟨rfl, rfl, rfl, .inl rfl⟩

theorem meets_ForwardingEngineTurnsFramesAside :
    (NextFrame (unmatched 0x0D7A1000 ⟨none, none⟩ .pass) .b ⟨0x0D7A1000, [1, 1]⟩ [] ∧
      (unmatched 0x0D7A1000 ⟨none, none⟩ .pass).mgt.inbox.inHand = none) ∧
    (unmatched 0x0D7A1000 ⟨some ⟨.a, []⟩, none⟩ .pass).mgt.inbox.waiting = none ∧
    (unmatched 0x0D7A1000 ⟨some ⟨.a, []⟩, some ⟨.a, []⟩⟩ .pass).mgt.inbox.waiting.isSome = true ∧
    (NextFrame (unmatched 700 ⟨none, none⟩ .drop) .b ⟨700, [1, 1]⟩ [] ∧
      (700 : CanId) ≠ (unmatched 700 ⟨none, none⟩ .drop).cfg.identity.request ∧
      ∀ e ∈ (unmatched 700 ⟨none, none⟩ .drop).cfg.frame, entryMatches e .b 700 = false) ∧
    (NextFrame (oneEntry .signal none (List.replicate 7 0)) .b ⟨700, List.replicate 7 0⟩ [] ∧
      malformed inclinometer 7 = true ∧ malformed inclinometer 8 = false) ∧
    (inclinometer.counterPos = some 6 ∧ byteSum [0, 0, 0, 0, 0, 0, 10, 246] = 0 ∧
      ((oneEntry .signal (some 10) [0, 0, 0, 0, 0, 0, 10, 246]).fwd.screening.getD 0 ⟨none, 0⟩).lastCounter =
        some ((byteAt [0, 0, 0, 0, 0, 0, 10, 246] 6).toNat % 16)) :=
  ⟨⟨nextFrame_unmatched _ _ _, rfl⟩, rfl, rfl, ⟨nextFrame_unmatched _ _ _, by decide, by decide⟩,
    ⟨nextFrame_oneEntry _ _ _, by decide, by decide⟩, by decide⟩

/-- A frame that fails the check byte test, while the signal unit has a report in hand and `x` waiting. -/
def signalBusy (x : Option SignalWork) : State :=
  let s := oneEntry .command none (List.replicate 8 1)
  { s with sig := { s.sig with inbox := ⟨some (.checkError 2 0), x⟩ } }

/-- Every form of the signal unit's inbox. -/
theorem meets_CheckErrorIsCountedAndReported :
    NextFrame (oneEntry .command none (List.replicate 8 1)) .b ⟨700, List.replicate 8 1⟩ [] ∧
    (700 : CanId) ≠ (oneEntry .command none (List.replicate 8 1)).cfg.identity.request ∧
    FirstMatch (oneEntry .command none (List.replicate 8 1)).cfg.frame .b 700 0 { inclinometer with action := .command } ∧
    malformed { inclinometer with action := .command } (List.replicate 8 (1 : Byte)).length = false ∧
    byteSum (List.replicate 8 1) ≠ 0 ∧ (oneEntry .command none (List.replicate 8 1)).sig.inbox.inHand = none ∧
    (∀ x, NextFrame (signalBusy x) .b ⟨700, List.replicate 8 1⟩ [] ∧ (signalBusy x).sig.inbox.inHand.isSome = true ∧
      (700 : CanId) ≠ (signalBusy x).cfg.identity.request ∧
      FirstMatch (signalBusy x).cfg.frame .b 700 0 { inclinometer with action := .command }) ∧
    (signalBusy none).sig.inbox.waiting = none ∧ Full (signalBusy (some (.checkError 1 0))).sig.inbox :=
  ⟨nextFrame_oneEntry _ _ _, by decide, firstMatch_oneEntry _ _ _, by decide, by decide, rfl,
    fun _ => ⟨⟨rfl, rfl, rfl, .inl rfl⟩, rfl, (by decide : (700 : CanId) ≠ 0x0D7A1000), firstMatch_oneEntry .command none (List.replicate 8 1)⟩, rfl, rfl, rfl⟩

/-- R3: a report waits at a busy signal unit; beside a waiting hand-off it is held back. -/
theorem test_check_error_at_a_busy_unit :
    result .forwardFrame (signalBusy none) (fun t => (t.sig.inbox.waiting, t.fwd.held)) =
      some (some (.checkError 0 0), none) ∧
    result .forwardFrame (signalBusy (some (.checkError 1 0)))
      (fun t => (t.sig.inbox.waiting, t.fwd.held, t.ports.b.stats.checkErr)) =
      some (some (.checkError 1 0), some (.checkError 0), 1) := by decide

/-- With every action, in order and over a gap; every inbox of these states is empty, and a full one holds the next hand-off
back. -/
theorem meets_AcceptedFrameGoesWhereItsActionSays :
    (∀ a, NextFrame (oneEntry a (some 10) [0, 0, 0, 0, 0, 0, 12, 244]) .b ⟨700, [0, 0, 0, 0, 0, 0, 12, 244]⟩ [] ∧
      FirstMatch (oneEntry a (some 10) [0, 0, 0, 0, 0, 0, 12, 244]).cfg.frame .b 700 0 { inclinometer with action := a } ∧
      screen { inclinometer with action := a }
        (((oneEntry a (some 10) [0, 0, 0, 0, 0, 0, 12, 244]).fwd.screening.getD 0 ⟨none, 0⟩).lastCounter)
        [0, 0, 0, 0, 0, 0, 12, 244] = .accepted (some 12) true ∧
      screen { inclinometer with action := a } (some 10) [0, 0, 0, 0, 0, 0, 11, 245] = .accepted (some 11) false ∧
      ¬(Full (oneEntry a (some 10) [0, 0, 0, 0, 0, 0, 12, 244]).sig.inbox)) ∧
    (∀ x y z : List Byte, Handed x emptyInbox ⟨some x, none⟩ ∧ Handed x ⟨some y, none⟩ ⟨some y, some x⟩ ∧
      Full (⟨some y, some z⟩ : Inbox (List Byte))) :=
  ⟨fun a => ⟨nextFrame_oneEntry _ _ _, firstMatch_oneEntry _ _ _, by cases a <;> decide, by cases a <;> decide,
      fun h => absurd h.1 Bool.false_ne_true⟩,
    fun _ _ _ => ⟨⟨fun _ => rfl, fun h => absurd h Bool.false_ne_true⟩, ⟨nofun, fun _ => rfl⟩, rfl, rfl⟩⟩

/-- A queue at its bounds: 28 forwarded entries of 30, 32 entries with and without a waiting forwarded one, and a waiting
entry of the offered origin and identifier between two others. -/
theorem meets_offers :
    ((loadedPort.tx.countP fun x => decide (x.origin = .forwarded)) = 28 ∧ loadedPort.tx.length = 30) ∧
    (((loadedPort.tx ++ [waitingEntry .own 5, waitingEntry .own 6]).length = 32 ∧
      loadedPort.tx ++ [waitingEntry .own 5, waitingEntry .own 6] = (loadedPort.tx.take 27) ++ waitingEntry .forwarded 128 ::
        [⟨.own, 10, [], true, false⟩, ⟨.own, 20, [], true, false⟩, waitingEntry .own 5, waitingEntry .own 6]) ∧
      ∀ x ∈ ([⟨.own, 10, [], true, false⟩, ⟨.own, 20, [], true, false⟩, waitingEntry .own 5, waitingEntry .own 6] : List TxEntry),
        ¬(x.origin = .forwarded ∧ x.started = false)) ∧
    ((List.replicate 32 (waitingEntry .own 5)).length = 32 ∧
      ∀ x ∈ List.replicate 32 (waitingEntry .own 5), ¬(x.origin = .forwarded ∧ x.started = false)) ∧
    ((waitingEntry .own 20).ident = 20 ∧ ∀ x ∈ [waitingEntry .forwarded 20, ⟨.own, 20, [], true, false⟩],
      ¬(x.origin = .own ∧ x.ident = 20 ∧ x.started = false)) := by
  decide

theorem notFull_empty {α : Type} : ¬Full (⟨none, none⟩ : Inbox α) := fun h => Bool.false_ne_true h.1

/-- Hand-offs of every kind at free blocks and at full ones. -/
theorem meets_HandOffsWaitAndFramesCrossOnce :
    (∃ s : State, s.phase = .running ∧ s.fwd.held = some (.engineReply [1]) ∧ canTake s (.engineReply [1]) = true) ∧
    (∃ s : State, s.phase = .running ∧ s.fwd.held = some (.console [1]) ∧ canTake s (.console [1]) = false) ∧
    (NextFrame (oneEntry .pass none []) .b ⟨700, []⟩ [] ∧ ∃ t, exec .forwardFrame (oneEntry .pass none []) = .next t) ∧
    (∀ h : HandOff, ∃ s : State, s.phase = .running ∧ s.fwd.held = some h ∧ ¬Full s.mgt.inbox ∧ ¬Full s.sig.inbox ∧
      ¬Full s.shp.inbox ∧ ¬Full s.eco.inbox ∧ ¬Full s.ntc.inbox ∧ ¬Full s.lim.inbox ∧ ¬Full s.eng.inbox) ∧
    (∀ h : HandOff, ∃ s : State, s.phase = .running ∧ s.fwd.held = some h ∧ Full s.mgt.inbox ∧ Full s.sig.inbox ∧
      Full s.shp.inbox ∧ Full s.eco.inbox ∧ Full s.eng.inbox) :=
  ⟨⟨{ ready with fwd := { ready.fwd with held := some (.engineReply [1]) } }, by decide⟩,
    ⟨{ ready with
        fwd := { ready.fwd with held := some (.console [1]) }
        lim := { ready.lim with inbox := ⟨some [], some []⟩ } }, by decide⟩,
    ⟨nextFrame_oneEntry _ _ _, _, rfl⟩,
    fun h => ⟨{ ready with fwd := { ready.fwd with held := some h } }, rfl, rfl, notFull_empty, notFull_empty, notFull_empty, notFull_empty, notFull_empty, notFull_empty, notFull_empty⟩,
    fun h => ⟨{ ready with
        fwd := { ready.fwd with held := some h }
        mgt := { ready.mgt with inbox := ⟨some ⟨.a, []⟩, some ⟨.a, []⟩⟩ }
        sig := { ready.sig with inbox := ⟨some (.checkError 1 0), some (.checkError 1 0)⟩ }
        shp := { ready.shp with inbox := ⟨some (.console []), some (.console [])⟩ }
        eco := { ready.eco with inbox := ⟨some [], some []⟩ }
        eng := { ready.eng with inbox := ⟨some [], some []⟩ } }, rfl, rfl, ⟨rfl, rfl⟩, ⟨rfl, rfl⟩, ⟨rfl, rfl⟩, ⟨rfl, rfl⟩, rfl, rfl⟩⟩

/-! ### Signals and position -/

theorem meets_SignalFrameJudgesEveryRole :
    encoderFrame.phase = .running ∧
    encoderFrame.sig.inbox.inHand = some (.frame encoderTable 20 [138, 172, 56, 255, 0, 0, 0, 0] 52310) ∧
    acceptedValue .slewRate (encoderTable.get .slewRate) [138, 172, 56, 255] = some (-200) ∧
    acceptedValue .slewRate (encoderTable.get .slewRate) [138, 172, 56] = none ∧
    taken encoderTable 20 [138, 172, 56, 255] .slewAngle = some 700 ∧ taken encoderTable 20 [] .slewAngle = none ∧
    resetPositionUnit.inHand = none ∧
    (∃ u : PositionUnit, u.inHand.isSome = true ∧ u.waiting = none) ∧
    (∃ u : PositionUnit, u.inHand.isSome = true ∧ u.waiting = some ⟨[⟨.boomAngle, 3000⟩, ⟨.armAngle, 5⟩], 9⟩) :=
  ⟨by decide, by decide, by decide, by decide, by decide, by decide, rfl,
    ⟨{ resetPositionUnit with inHand := some (.loss ⟨.armAngle, 5⟩) }, rfl, rfl⟩,
    ⟨{ resetPositionUnit with inHand := some (.loss ⟨.armAngle, 5⟩), waiting := some ⟨[⟨.boomAngle, 3000⟩, ⟨.armAngle, 5⟩], 9⟩ }, rfl, rfl⟩⟩

/-- The extremes of raw value and calibration, and a link angle one step outside its range on either side. -/
theorem meets_CalibratedValueIsNotWrapped :
    SignalEntryOk .boomAngle { defaultSignalEntry .boomAngle with signed := false, calibration := 32767 } ∧
    rawValue { defaultSignalEntry .boomAngle with signed := false, calibration := 32767 } [255, 255] + 32767 = 98302 ∧
    SignalEntryOk .slewAngle { defaultSignalEntry .slewAngle with signed := true, calibration := -32768 } ∧
    rawValue { defaultSignalEntry .slewAngle with signed := true, calibration := -32768 } [128, 0] + -32768 = -65536 ∧
    rawValue (defaultSignalEntry .boomAngle) [70, 80] + 0 = 18000 ∧
    rawValue (defaultSignalEntry .boomAngle) [185, 175] + 0 = -18001 ∧
    (∀ low : Bool, ({ defaultSignalEntry .slewRate with lowFirst := low }).lowFirst = low) ∧
    ([1, 2].length ≤ ({ defaultSignalEntry .slewRate with offset := 1 }).offset + 1 ∧
      ({ defaultSignalEntry .slewRate with offset := 0 }).offset + 1 < [1, 2].length) := by
  unfold SignalEntryOk
  decide

/-- Each quadrant at its ends, the last whole degree, and a tie of the rounding on either side of 0. -/
theorem meets_CosineIsShiftedSine :
    (∀ r ∈ [8999, 9000, 17999, 18000, 26999, 27000, 35999], ((r : Nat) : Int) = (r : Int) % 36000) ∧ (89 < 90 ∧ 99 < 100) ∧
    ((1 : Int) * -16384 = -16384 ∧ (3 : Int) * -16384 = -49152) := by decide

theorem meets_EighthCheckErrorWithinASecondRaises :
    ([8150, 8300, 8450, 8600, 8750, 8900].filter (fun x => decide (((9050 : Time) - x).toNat < 1000)) ++ [9050]).length < 8 ∧
    8 ≤ ([8051, 8150, 8300, 8450, 8600, 8750, 8900].filter
      (fun x => decide (((9050 : Time) - x).toNat < 1000)) ++ [9050]).length := by decide

/-- A role's record accepted at 1000, with timeout 100 and a hold time. -/
def ageing (r : Role) (x : SignalState) (hold : Nat) (now : Time) : State :=
  { ready with
    now := now
    cfg := { ready.cfg with signal := ready.cfg.signal.set r { ready.cfg.signal.get r with timeout := 100, hold := hold } }
    sig := { ready.sig with records := ready.sig.records.set r ⟨5, x, some 1000, 0⟩ } }

theorem meets_SilentSignalAgesToLost :
    ∀ r, r = .boomAngle ∨ r = .engineSpeed ∨ r = .engineLoad →
      (ageing r .fresh 300 1100).phase = .running ∧ ((ageing r .fresh 300 1100).sig.records.get r).accepted = some 1000 ∧
      ((ageing r .fresh 300 1100).sig.records.get r).state = .fresh ∧
      ((ageing r .fresh 300 1100).cfg.signal.get r).timeout ≤ ((ageing r .fresh 300 1100).now - 1000).toNat ∧
      0 < ((ageing r .fresh 300 1100).cfg.signal.get r).hold ∧ ((ageing r .fresh 0 1100).cfg.signal.get r).hold = 0 ∧
      ((ageing r .fresh 300 1099).now - 1000).toNat < ((ageing r .fresh 300 1099).cfg.signal.get r).timeout ∧
      ((ageing r .holding 300 1400).sig.records.get r).state = .holding ∧
      ((ageing r .holding 300 1400).cfg.signal.get r).timeout + ((ageing r .holding 300 1400).cfg.signal.get r).hold ≤
        ((ageing r .holding 300 1400).now - 1000).toNat ∧
      ((ageing r .holding 300 1399).now - 1000).toNat <
        ((ageing r .holding 300 1399).cfg.signal.get r).timeout + ((ageing r .holding 300 1399).cfg.signal.get r).hold := by
  rintro r (rfl | rfl | rfl) <;> decide

theorem meets_PositionComputedOrInvalid :
    (posed 3000 0 0).phase = .running ∧ (posed 3000 0 0).pos.inHand = some (.accepted ⟨[⟨.boomAngle, 3000⟩], 9⟩) ∧
    (∃ x ∈ [(⟨.boomAngle, 3000⟩ : RoleValue)], isAngle x.role = true) ∧ canCompute (posed 3000 0 0) = true ∧
    canCompute { posed 3000 0 0 with cfg := ready.cfg } = false ∧
    (∃ s : State, s.phase = .running ∧ s.pos.inHand = some (.loss ⟨.armAngle, 20⟩)) ∧
    (∃ u : PositionUnit, u.losses = [⟨.armAngle, 20⟩] ∧ u.waiting = some ⟨[⟨.boomAngle, 3000⟩], 9⟩ ∧ u.inHand.isSome = true) ∧
    (∃ u : PositionUnit, u.losses = [] ∧ u.waiting = some ⟨[⟨.boomAngle, 3000⟩], 9⟩) ∧
    resetPositionUnit.losses = [] ∧ resetPositionUnit.waiting = none ∧ resetEnvelope.inbox.inHand = none ∧
    (∃ b : Inbox EnvelopeHandOff, b.inHand.isSome = true ∧ b.waiting = none) ∧
    (∃ b : Inbox EnvelopeHandOff, b.inHand.isSome = true ∧ b.waiting = some ⟨turned 0 0, [.position (turned 0 0)]⟩) :=
  ⟨by decide, by decide, by decide, by decide, by decide,
    ⟨{ ready with pos := { ready.pos with inHand := some (.loss ⟨.armAngle, 20⟩) } }, rfl, rfl⟩,
    ⟨⟨resetPosition, some (.loss ⟨.armAngle, 5⟩), [⟨.armAngle, 20⟩], some ⟨[⟨.boomAngle, 3000⟩], 9⟩⟩, rfl, rfl, rfl⟩,
    ⟨⟨resetPosition, none, [], some ⟨[⟨.boomAngle, 3000⟩], 9⟩⟩, rfl, rfl⟩, rfl, rfl, rfl, ⟨⟨some ⟨turned 0 0, []⟩, none⟩, rfl, rfl⟩,
    ⟨⟨some ⟨turned 0 0, []⟩, some ⟨turned 0 0, [.position (turned 0 0)]⟩⟩, rfl, rfl⟩⟩

/-- Losses wait in order and come first; a later notification joins the one that waits; a later hand-off replaces it. -/
theorem test_position_queue :
    ((⟨resetPosition, some (.loss ⟨.armAngle, 5⟩), [⟨.boomAngle, 20⟩],
        some ⟨[⟨.boomAngle, 3000⟩, ⟨.slewRate, 310⟩], 9⟩⟩ : PositionUnit).notify
      ⟨[⟨.slewRate, 290⟩, ⟨.armAngle, 5⟩], 12⟩).finish =
      ⟨resetPosition, some (.loss ⟨.boomAngle, 20⟩), [],
        some ⟨[⟨.boomAngle, 3000⟩, ⟨.slewRate, 290⟩, ⟨.armAngle, 5⟩], 12⟩⟩ ∧
    (⟨some ⟨turned 0 0, []⟩, some ⟨turned 5 0, [.position (turned 5 0)]⟩⟩ : Inbox EnvelopeHandOff).replace ⟨turned 7 0, []⟩ =
      ⟨some ⟨turned 0 0, []⟩, some ⟨turned 7 0, [.position (turned 5 0)]⟩⟩ := by decide

/-- A SLEW_RATE acceptance in the hand of the position unit, the record usable or not. -/
def rateOnly (x : SignalState) : State :=
  { ready with
    sig := { ready.sig with records := { ready.sig.records with slewRate := ⟨-120, x, some 0, 0⟩ } }
    pos := { ready.pos with inHand := some (.accepted ⟨[⟨.slewRate, -120⟩], 9⟩) } }

theorem meets_SlewRateUpdateChangesOmegaAlone :
    (rateOnly .fresh).phase = .running ∧ (rateOnly .fresh).pos.inHand = some (.accepted ⟨[⟨.slewRate, -120⟩], 9⟩) ∧
    (∀ x ∈ [(⟨.slewRate, -120⟩ : RoleValue)], isAngle x.role = false) ∧ usable (rateOnly .holding).sig.records.slewRate = true ∧
    usable (rateOnly .lost).sig.records.slewRate = false := by decide

/-! ### Envelope -/

theorem meets_DistanceComputationReplacesTheRecord :
    (slewing 9250 40 ready).phase = .running ∧ (slewing 9250 40 ready).env.inbox.inHand = some ⟨turned 9250 40, []⟩ ∧
    (slewing 9250 40 ready).env.activation = none ∧
    (∀ i, i < 16 → GainOf (envelopeInputs (slewing 9250 40 ready)) (turned 9250 40) slewBank slewPos i
      (if i = 0 then some 0 else none)) := by
  refine ⟨by decide, by decide, by decide, fun i hi => ?_⟩
  have h : ∀ i, i < 16 → approach (envelopeInputs (slewing 9250 40 ready)) (turned 9250 40) slewBank.header
      (slewBank.entryAt i) = if i = 0 then some ⟨[(slewPos, -250)], -250, true⟩ else none := by decide
  unfold GainOf
  rw [h i hi]
  by_cases h0 : i = 0
  · subst h0
    refine ⟨fun a d ha hd => ?_, fun hn => absurd (List.mem_singleton_self _) (hn _ (-250) rfl)⟩
    cases ha
    cases List.mem_singleton.1 hd
    decide
  · simp [h0]

theorem maySwap_iff (s : State) : activationHolds s = true ↔ MaySwap s := activationHolds_iff s

/-- The tables of the examples, a distance record in which nothing is braked, and a valid position: an activation waits. -/
def swapping (psi omega : Int) : State :=
  { awaiting (widening psi omega) with
    cfg := exampleTables
    env := { (awaiting (widening psi omega)).env with inbox := ⟨some ⟨turned psi omega, []⟩, none⟩ } }

/-- With an activation waiting, the condition true and false. -/
theorem meets_DistanceComputationTestsTheActivation :
    (∀ psi omega, (swapping psi omega).phase = .running ∧
      (swapping psi omega).env.inbox.inHand = some ⟨turned psi omega, []⟩ ∧
      (swapping psi omega).env.activation = some ⟨.a, 9, 0, false⟩ ∧ TablesOk (swapping psi omega).cfg) ∧
    Completes ⟨.a, 9, 0, false⟩ (swapping 5000 (-100)) ∧ ¬Completes ⟨.a, 9, 0, false⟩ (swapping 8950 100) ∧
    ¬Completes ⟨.a, 9, 0, true⟩ (swapping 5000 (-100)) :=
  ⟨fun _ _ => ⟨rfl, rfl, rfl, tablesOk_example⟩, ⟨rfl, (maySwap_iff _).1 (by decide)⟩,
    fun h => absurd ((maySwap_iff _).2 h.2) (by decide), fun h => absurd h.1 (by decide)⟩

/-- Each kind, and a FLOOR at its reference radius. -/
theorem meets_TipDistancesByKind :
    (∀ k, k ≠ EnvelopeKind.slewArc →
      applicable ⟨false, true⟩ { turned 4500 0 with r := 9279 } { gradeEntry with kind := k } = true) ∧
    ({ turned 4500 0 with r := 6000 } : PositionRecord).r = gradeEntry.refRadius ∧
    (applicable ⟨true, false⟩ (turned 6900 1000) (slewBank.entryAt 0) = true ∧ (slewBank.entryAt 0).kind = .slewArc ∧
      0 < slewBank.header.decel ∧ inSector 9000 (slewBank.entryAt 0) = true ∧ inSector 9001 (slewBank.entryAt 0) = false) ∧
    (((18000 : Int) - 9000) % 36000 ≤ ((27000 : Int) - 18000) % 36000 ∧
      ((27000 : Int) - 18001) % 36000 < ((18001 : Int) - 9000) % 36000) ∧
    (ProfileOk (slewBank.profileAt 0) ∧ (slewBank.profileAt 0).thresholds.getD 0 0 ≤ 3000 ∧
      2 < (slewBank.profileAt 0).count ∧ (499 : Int) < (slewBank.profileAt 0).thresholds.getD 2 0 ∧
      ∀ j, 2 < j → j < (slewBank.profileAt 0).count → (slewBank.profileAt 0).thresholds.getD j 0 ≤ 499) := by
  refine ⟨?_, rfl, by decide, by decide, ?_, by decide, by decide, by decide, ?_⟩
  · intro k h
    cases k <;> first | exact absurd rfl h | decide
  · unfold ProfileOk; decide
  · intro j h1 h2
    have h3 : j = 3 := by have : (slewBank.profileAt 0).count = 4 := rfl; omega
    rw [h3]; decide

/-- Approaches of which entries 0 and 3 restrict SLEW+, by the bank of the slew approach: both give 512. -/
def twoApproaches : List (Option Approach) :=
  [some ⟨[(slewPos, 1475)], 1475, false⟩, none, none, some ⟨[(slewPos, 600)], 600, false⟩]

theorem meets_TargetGainIsTheLeast :
    ∀ i, (i < 4 → ((twoApproaches.getD i none).bind fun a => entryGain slewBank (slewBank.entryAt i) a slewPos) =
      if i = 0 ∨ i = 3 then some 512 else none) := by decide

theorem meets_WaitingActivationEnds :
    (∀ s, (s = awaiting (widening 8950 100) ∨ s = awaiting (widening 5000 (-100))) →
      s.phase = .running ∧ s.env.activation = some ⟨.a, 9, 0, false⟩ ∧ s.env.testAsked = true ∧ s.env.inbox.inHand = none) ∧
    ¬Completes ⟨.a, 9, 0, false⟩ (awaiting (widening 8950 100)) ∧
    Completes ⟨.a, 9, 0, false⟩ (awaiting (widening 5000 (-100))) ∧
    10000 ≤ ((10000 : Time) - 0).toNat ∧ ((9999 : Time) - 0).toNat < 10000 ∧
    RequestInHand (asked [6, 10, 0, 0, 0, 0, 0, 0] (awaiting ready)) ⟨.a, [6, 10, 0, 0, 0, 0, 0, 0]⟩ 6 ∧
    (RequestInHand (asked [6, 10, 0, 0, 0, 0, 0, 0] ready) ⟨.a, [6, 10, 0, 0, 0, 0, 0, 0]⟩ 6 ∧
      (asked [6, 10, 0, 0, 0, 0, 0, 0] ready).env.activation = none) ∧
    (∃ t, exec .distanceComputation overLimit = .next t ∧ t.phase = .running ∧ t.env.activation = some ⟨.a, 9, 0, true⟩ ∧
      RequestOk t) := by
  refine ⟨?_, fun h => absurd ((maySwap_iff _).2 h.2) (by decide), ⟨rfl, (maySwap_iff _).1 (by decide)⟩, by decide, by decide,
    ⟨rfl, rfl, by decide, by decide⟩, ⟨⟨rfl, rfl, by decide, by decide⟩, rfl⟩, _, rfl, by decide, by decide, ?_⟩
  · rintro s (rfl | rfl) <;> decide
  · unfold RequestOk; decide

theorem meets_ActivateBankValidatesThenWaits :
    RequestInHand (widening 8800 400) ⟨.a, [5, 9, 0, 0, 0, 0, 0, 0]⟩ 5 ∧ (widening 8800 400).mgt.progress = none ∧
    (widening 8800 400).lim.state = .normal ∧ validationFailure (widening 8800 400).cfg.shadowBank = none ∧
    ¬MaySwap (widening 8800 400) ∧ MaySwap (widening 5000 (-100)) ∧
    ({ widening 5000 (-100) with env := { (widening 5000 (-100)).env with inbox := ⟨none, none⟩ } } : State).env.inbox.inHand =
      none ∧
    (restricted []).lim.state ≠ .normal ∧
    validationFailure { slewBank with entries := slewBank.entries.set 15 { gradeEntry with profile := 7 } } = some (1, 15) ∧
    validationFailure { slewBank with profiles := slewBank.profiles.set 7 { defaultProfile with count := 2 } } =
      some (2, 7) :=
  ⟨⟨rfl, rfl, by decide, by decide⟩, by decide, by decide, by decide, fun h => absurd ((maySwap_iff _).2 h) (by decide),
    (maySwap_iff _).1 (by decide), rfl, by decide, by decide, by decide⟩

theorem meets_CopyBankCopiesTheWholeActiveBank :
    RequestInHand (asked [4, 1, 0, 0, 0, 0, 0, 0] ready) ⟨.a, [4, 1, 0, 0, 0, 0, 0, 0]⟩ 4 ∧
    (asked [4, 1, 0, 0, 0, 0, 0, 0] ready).mgt.progress = none ∧
    RequestInHand (asked [4, 1, 0, 0, 0, 0, 0, 0] (awaiting ready)) ⟨.a, [4, 1, 0, 0, 0, 0, 0, 0]⟩ 4 ∧
    RequestOk (asked [4, 1, 0, 0, 0, 0, 0, 0] (awaiting ready)) ∧
    (asked [4, 1, 0, 0, 0, 0, 0, 0] (awaiting ready)).env.activation.isSome = true := by
  refine ⟨⟨rfl, rfl, by decide, by decide⟩, rfl, ⟨rfl, rfl, by decide, by decide⟩, ?_, rfl⟩
  unfold RequestOk
  decide

/-! ### Shaping and guidance -/

/-- The joystick frame in hand in each limiter state. -/
theorem meets_CommandFrameIsShapedAndForwarded :
    ∀ x, ∃ s : State, s.phase = .running ∧ s.lim.state = x ∧ s.shp.inbox.inHand =
      some (.command .a ⟨300, [4, 76, 254, 212, 0, 9, 7, 206]⟩ ⟨some 0, some 2, none, none, none, none⟩ (some 7)) :=
  fun x => ⟨{ joystick with lim := { joystick.lim with state := x } }, rfl, rfl, rfl⟩

theorem meets_ShapingNeverAmplifiesAndChecksClose :
    (1024 ≤ 1024 ∧ (0 : Int) ≤ 1000 ∧ (-1000 : Int) ≤ 0) ∧ 7 < (List.replicate 8 (1 : Byte)).length ∧
    ((⟨some 0, some 2, none, none, none, none⟩ : PerAxis (Option Nat)).get .arm = some 2 ∧
      2 + 1 < [4, 76, 254, 212, 0, 9, 7, 206].length ∧
      (⟨some 0, some 2, none, none, none, none⟩ : PerAxis (Option Nat)).get .boom = some 0 ∧ 0 + 1 < 2) ∧
    ∀ x, (⟨none, none, none, none, none, none⟩ : PerAxis (Option Nat)).get x = none := by
  refine ⟨by decide, by decide, by decide, fun x => ?_⟩
  cases x <;> rfl

theorem meets_TransitionsLowerGainsAndConsoleSetsGradeHold :
    joystick.phase = .running ∧
    ∃ s : State, s.phase = .running ∧ s.shp.inbox.inHand = some (.console [7, 8, 0, 255, 0]) ∧
      s.shp.gradeHold = true ∧ false = (byteAt [7, 8, 0, 255, 0] 2).getLsbD 2 :=
  ⟨rfl, { ready with shp := { ready.shp with gradeHold := true, inbox := ⟨some (.console [7, 8, 0, 255, 0]), none⟩ } }, rfl,
    rfl, rfl, by decide⟩

theorem findGrade_iff (b : Bank) (p : PositionRecord) (i : Nat) (h : p.valid = true)
    (hi : ∀ j, j < i → ¬((b.entryAt j).enabled = true ∧ (b.entryAt j).kind = .floor ∧ inSector p.psi (b.entryAt j) = true))
    (h16 : i < 16) (he : (b.entryAt i).enabled = true) (hk : (b.entryAt i).kind = .floor)
    (hs : inSector p.psi (b.entryAt i) = true) (k : Nat) :
    some i = some k ↔ (p.valid = true ∧ k < 16 ∧ (b.entryAt k).enabled = true ∧ (b.entryAt k).kind = .floor ∧
      inSector p.psi (b.entryAt k) = true ∧ ∀ j, j < k → ¬((b.entryAt j).enabled = true ∧ (b.entryAt j).kind = .floor ∧
        inSector p.psi (b.entryAt j) = true)) := by
  constructor
  · rintro ⟨⟩; exact ⟨h, h16, he, hk, hs, hi⟩
  · rintro ⟨-, -, hk1, hk2, hk3, hk4⟩
    rcases Nat.lt_trichotomy i k with hlt | rfl | hgt
    · exact absurd ⟨he, hk, hs⟩ (hk4 i hlt)
    · rfl
    · exact absurd ⟨hk1, hk2, hk3⟩ (hi k hgt)

/-- The grade hand-off of the worked example, in band, before the guidance period has elapsed and after it. -/
theorem meets_GuidanceFollowsThePosition :
    ∀ time, time = 99 ∨ time = 100 →
      (onGrade time).phase = .running ∧
      (onGrade time).shp.positions = [⟨⟨9279, -3530, 4500, 0, true, false, some 0, 1⟩, time⟩] ∧
      (∀ i, some 5 = some i ↔ (true = true ∧ i < 16 ∧ ((onGrade time).cfg.activeBank.entryAt i).enabled = true ∧
        ((onGrade time).cfg.activeBank.entryAt i).kind = .floor ∧
        inSector 4500 ((onGrade time).cfg.activeBank.entryAt i) = true ∧
        ∀ j, j < i → ¬(((onGrade time).cfg.activeBank.entryAt j).enabled = true ∧
          ((onGrade time).cfg.activeBank.entryAt j).kind = .floor ∧
          inSector 4500 ((onGrade time).cfg.activeBank.entryAt j) = true))) ∧
      some (max (-32767) (min 32767 (-3530 - gradeHeight ((onGrade time).cfg.activeBank.entryAt 5) 9279))) = some (35 : Int) ∧
      (true = true ↔ ((onGrade time).shp.gradeHold = true ∧ ∃ v, some (35 : Int) = some v ∧ v.natAbs ≤
        (onGrade time).cfg.identity.gradeBand)) ∧
      ((onGrade 100).cfg.identity.guidancePeriod ≤ ((100 : Time) - 0).toNat ∧
        ((99 : Time) - 0).toNat < (onGrade 99).cfg.identity.guidancePeriod) := by
  have h := findGrade_iff (onGrade 99).cfg.activeBank ⟨9279, -3530, 4500, 0, true, false, some 0, 1⟩ 5 rfl
    (by decide) (by decide) rfl rfl (by decide)
  rintro time (rfl | rfl) <;>
    exact ⟨rfl, rfl, h, by decide, ⟨fun _ => ⟨rfl, 35, rfl, by decide⟩, fun _ => rfl⟩, by decide⟩

/-! ### Limiter supervision -/

theorem meets_StartupEndsAndAcknowledgementCloses :
    (∃ s : State, s.phase = .running ∧ s.lim.events = [.position (turned 0 0)] ∧ s.lim.state = .startup) ∧
    (∃ s : State, s.phase = .running ∧ s.lim.events = [.position { turned 0 0 with clamped := true }]) ∧
    (∃ (s : State) (f : FaultRecord), s.phase = .running ∧ s.lim.state = .startup ∧ s.lim.startupSince = some 0 ∧
      (∀ r, some Role.boomAngle = some r ↔ ∃ l m, positionRoles = l ++ r :: m ∧ usable (s.sig.records.get r) = false ∧
        ∀ q ∈ l, usable (s.sig.records.get q) = true) ∧
      OpenedRecord s ⟨.positionLost, some .boomAngle, none, none, none⟩ f ∧ 5000 ≤ (s.now - 0).toNat) ∧
    ((4999 : Time) - 0).toNat < 5000 ∧
    (∃ (s : State) (f : FaultRecord), s.phase = .running ∧ s.lim.inbox.inHand = some [0, 0, 0, 255, 17] ∧
      s.lim.state = .restricted ∧ s.lim.openRecord = some f ∧ 17 = f.tag ∧ ConditionAbsent s ∧
      (71 : Nat) ≠ f.tag ∧ (byteAt [0, 0, 0, 255, 17] 4).toNat = 17) ∧
    (∃ (s : State) (f : FaultRecord), s.lim.state = .restricted ∧ s.lim.openRecord = some f ∧ 17 = f.tag ∧
      ¬ConditionAbsent s) := by
  refine ⟨⟨partIn { resetLimiter with events := [.position (turned 0 0)] }, rfl, rfl, rfl⟩,
    ⟨partIn { resetLimiter with events := [.position { turned 0 0 with clamped := true }] }, rfl, rfl⟩,
    ⟨{ partIn resetLimiter with now := 5000 }, _, rfl, rfl, rfl, ?_, rfl, by decide⟩, by decide,
    ⟨allFresh { restricted [] with lim := { (restricted []).lim with inbox := ⟨some [0, 0, 0, 255, 17], none⟩ } }, breachRecord,
      rfl, rfl, rfl, rfl, rfl, ?_, by decide, by decide⟩,
    ⟨restricted [], breachRecord, rfl, rfl, rfl, ?_⟩⟩
  · intro r
    constructor
    · rintro ⟨⟩; exact ⟨[], _, rfl, by decide, by simp⟩
    · rintro ⟨l, m, h, -, hl⟩
      cases l with
      | nil => cases h; rfl
      | cons q l =>
        have hq : q = .boomAngle := (List.cons.inj h).1.symm
        exact absurd (hl q (by simp)) (by rw [hq]; decide)
  · unfold ConditionAbsent; decide
  · unfold ConditionAbsent; decide

theorem meets_ReportsAreTakenByTheState :
    (∃ (s : State) (f : FaultRecord), s.phase = .running ∧ s.lim.events = [.report breach] ∧ s.lim.state = .normal ∧
      OpenedRecord s breach f) ∧
    (∃ (s : State) (f : FaultRecord), s.phase = .running ∧ s.lim.events = [.report breach] ∧ s.lim.state = .startup ∧
      breach.kind ≠ .positionLost ∧ OpenedRecord s breach f) ∧
    (∃ s : State, s.phase = .running ∧ s.lim.events = [.report ⟨.positionLost, none, none, none, some 0⟩] ∧ s.lim.state = .startup) ∧
    (∃ (s : State) (o : FaultRecord), s.phase = .running ∧ s.lim.events = [.report breach] ∧ s.lim.state = .restricted ∧
      s.lim.openRecord = some o ∧ Matches breach o) ∧
    (∃ (s : State) (o f : FaultRecord), s.phase = .running ∧
      s.lim.events = [.report ⟨.positionLost, some .boomAngle, none, none, some 0⟩] ∧ s.lim.state = .restricted ∧
      s.lim.openRecord = some o ∧ ¬Matches ⟨.positionLost, some .boomAngle, none, none, some 0⟩ o ∧
      OpenedRecord s ⟨.positionLost, some .boomAngle, none, none, some 0⟩ f) :=
  ⟨⟨coasting { resetLimiter with state := .normal, startupSince := none } [.report breach], _, rfl, rfl, rfl, rfl⟩,
    ⟨coasting resetLimiter [.report breach], _, rfl, rfl, rfl, by decide, rfl⟩,
    ⟨coasting resetLimiter [.report ⟨.positionLost, none, none, none, some 0⟩], rfl, rfl, rfl⟩,
    ⟨restricted [.report breach], breachRecord, rfl, rfl, rfl, rfl, rfl, rfl, rfl⟩,
    ⟨restricted [.report ⟨.positionLost, some .boomAngle, none, none, some 0⟩], breachRecord, _, rfl, rfl, rfl, rfl,
      fun h => absurd h.1 (by decide), rfl⟩⟩

/-- In HOLD with a report waiting that matches the open record, the second record, or neither; RELOAD in HOLD; and a command
that leaves HOLD as it is. -/
theorem meets_HoldIsKeptUntilReleaseOrReset :
    (held.phase = .running ∧ held.lim.state = .hold ∧ held.lim.openRecord = some breachRecord ∧
      held.lim.secondRecord = some { breachRecord with tag := 18, entry := some 4 }) ∧
    Matches breach breachRecord ∧
    (¬Matches { breach with entry := some 4 } breachRecord ∧
      Matches { breach with entry := some 4 } { breachRecord with tag := 18, entry := some 4 }) ∧
    (¬Matches { breach with entry := some 7 } breachRecord ∧
      ¬Matches { breach with entry := some 7 } { breachRecord with tag := 18, entry := some 4 }) ∧
    (RequestInHand (asked [8, 1, 0, 0, 0, 0, 0, 0] held) ⟨.a, [8, 1, 0, 0, 0, 0, 0, 0]⟩ 8 ∧ held.mgt.progress = none) ∧
    (held.phase ≠ .startUp ∧ ∃ t, exec .forwardFrame held = .next t) := by
  refine ⟨⟨rfl, rfl, rfl, rfl⟩, ⟨rfl, rfl, rfl⟩, ?_, ?_, ⟨⟨rfl, rfl, by decide, by decide⟩, rfl⟩, by decide, _, rfl⟩ <;>
    (unfold Matches; decide)

theorem meets_FaultReleaseTestsInOrder :
    RequestInHand held ⟨.a, [10, 1, 0, 0, 0, 0, 0, 0]⟩ 10 ∧ held.mgt.progress = none ∧ held.lim.state = .hold ∧
    (restricted []).lim.state ≠ .hold ∧ (∃ r ∈ positionRoles, ((restricted []).sig.records.get r).state ≠ .fresh) ∧
    ((∀ r ∈ positionRoles, ({ held with pos := ready.pos }.sig.records.get r).state = .fresh) ∧
      ¬ConditionAbsent { held with pos := ready.pos }) ∧
    ConditionAbsent held ∧ (∀ x, (held.shp.lastRaw.get x).natAbs ≤ held.cfg.identity.deadband) ∧
    (∃ s : State, ConditionAbsent s ∧ ∃ x, s.cfg.identity.deadband < (s.shp.lastRaw.get x).natAbs) := by
  refine ⟨⟨rfl, rfl, by decide, by decide⟩, rfl, rfl, by decide, ⟨.boomAngle, by decide⟩, ⟨by decide, ?_⟩, ?_, ?_,
    { held with shp := { held.shp with lastRaw := ⟨51, 0, 0, 0, 0, 0⟩ } }, ?_, .boom, by decide⟩
  · unfold ConditionAbsent; decide
  · unfold ConditionAbsent; decide
  · intro x; cases x <;> decide
  · unfold ConditionAbsent; decide

/-- In RESTRICTED under a record, with a second report waiting and the command that takes it. -/
def faulting : State :=
  { restricted [.report ⟨.positionLost, some .boomAngle, none, none, some 0⟩] with pending := [.faultReport] }

theorem meets_EveryStepKeepsTheLimiterSound : LimiterOk faulting ∧ ∃ t, step faulting = .next t := by
  refine ⟨⟨⟨rfl, rfl, rfl, rfl⟩, by decide, by decide, ?_, by decide, by decide⟩, _, rfl⟩
  unfold gainCeiling
  decide

/-! ### Economy and the engine request queue -/

/-- Below the first demand, at a point, between two points and at the last point of a curve that starts at 300. -/
theorem meets_CurveValueIsInterpolated :
    (∃ e, EconomyOk e ∧ 299 < e.demands.getD 0 0) ∧ EconomyOk defaultEconomy ∧ 0 < defaultEconomy.pointCount ∧
    defaultEconomy.demands.getD 1 0 ≤ 300 ∧ 699 < defaultEconomy.demands.getD 2 0 ∧
    300 = defaultEconomy.demands.getD 1 0 ∧ 3 + 1 = defaultEconomy.pointCount ∧ defaultEconomy.demands.getD 3 0 ≤ 1000 := by
  refine ⟨⟨{ defaultEconomy with demands := [300, 400, 700, 1000, 1000, 1000, 1000, 1000] }, ?_, by decide⟩,
    economyOk_default, by decide, by decide, by decide, by decide, by decide, by decide⟩
  unfold EconomyOk; decide

/-- Each economy state and power mode, with the dial at 1800 and the demand at 400. -/
theorem meets_TargetAndReasonByTheState :
    ∀ (x : EconomyState) (m : PowerMode), ∃ (u : EconomyUnit) (dial curve base : Int), EconomyOk defaultEconomy ∧
      u.state = x ∧ u.mode = m ∧
      dial = max (defaultEconomy.idle : Int) (min (defaultEconomy.max : Int) (u.dial.getD defaultEconomy.idle : Nat)) ∧
      curve = max (defaultEconomy.idle : Int) (min (defaultEconomy.max : Int) (curveValue defaultEconomy u.demand)) ∧
      (u.state = .autoIdle → base = defaultEconomy.idle) ∧
      (u.state = .fallback ∨ (u.state = .run ∧ u.mode = .full) → base = dial) ∧
      (u.state = .run ∧ u.mode = .eco → base = min dial curve) := by
  intro x m
  refine ⟨{ resetEconomy with state := x, mode := m, dial := some 1800, demand := 400 }, 1800, 1500,
    (match x, m with | .autoIdle, _ => 900 | .run, .eco => 1500 | _, _ => 1800), economyOk_default, rfl, rfl,
    by show (1800 : Int) = max 900 (min 1900 1800); decide,
    by show (1500 : Int) = max 900 (min 1900 (curveValue defaultEconomy 400)); decide, ?_⟩
  cases x <;> cases m <;> decide

theorem judgedTimer_exists (s : State) (raw : PerAxis Int) : ∃ timer, JudgedTimer s raw timer := by
  by_cases h : IdleConditions s raw
  · exact ⟨some (s.eco.timer.getD s.now), fun _ => rfl, fun n => absurd h n⟩
  · exact ⟨none, fun c => absurd c h, fun _ => rfl⟩

/-- Each economy state, the last raw values as they stand neutral at the deadband and out of neutral one step beyond it. -/
theorem meets_CommandNotificationSettlesTheTarget :
    (∀ x raw, ∃ s : State, s.phase = .running ∧ s.eco.state = x ∧ s.shp.lastRaw = raw ∧
      s.eco.commands = [⟨⟨0, 0, 0, 0, 0, 0⟩, ⟨0, 0, 0, 0, 0, 0⟩⟩]) ∧
    (∀ x, ((⟨50, 0, 0, 0, 0, -50⟩ : PerAxis Int).get x).natAbs ≤ ready.cfg.identity.deadband) ∧
    (∃ x, ready.cfg.identity.deadband < ((⟨51, 0, 0, 0, 0, 0⟩ : PerAxis Int).get x).natAbs) ∧
    (∀ s raw, ∃ timer, JudgedTimer s raw timer) :=
  ⟨fun x raw => ⟨{ ready with
      shp := { ready.shp with lastRaw := raw }
      eco := { ready.eco with state := x, commands := [⟨⟨0, 0, 0, 0, 0, 0⟩, ⟨0, 0, 0, 0, 0, 0⟩⟩] } }, rfl, rfl, rfl, rfl⟩,
    by intro x; cases x <;> decide, ⟨.boom, by decide⟩, judgedTimer_exists⟩

/-- R87: a lever that has left neutral since the notification was made counts. -/
theorem test_neutral_at_the_event :
    result .economyCommandNotify { ready with
        shp := { ready.shp with lastRaw := ⟨51, 0, 0, 0, 0, 0⟩ }
        eco := { ready.eco with state := .autoIdle, commands := [⟨⟨0, 0, 0, 0, 0, 0⟩, ⟨0, 0, 0, 0, 0, 0⟩⟩] } }
      (fun t => t.eco.state) = some .run := by decide

/-- Each economy state, the auto-idle switch on and off. -/
theorem meets_ConsoleSetsTheEconomySettings :
    (∀ x, ∃ s : State, s.phase = .running ∧ s.eco.state = x ∧ s.eco.inbox.inHand = some [3, 132, 2, 255, 0] ∧
      s.cfg.economy.idle = (halfAt [3, 132, 2, 255, 0] 0).toNat) ∧
    (byteAt [3, 132, 2, 255, 0] 2).getLsbD 1 = true ∧ (byteAt [7, 108, 0, 255, 0] 2).getLsbD 1 = false ∧
    (halfAt [7, 108, 0, 255, 0] 0).toNat = defaultEconomy.max + 0 :=
  ⟨fun x => ⟨{ ready with eco := { ready.eco with state := x, inbox := ⟨some [3, 132, 2, 255, 0], none⟩ } }, rfl, rfl, rfl,
    rfl⟩, by decide, by decide, by decide⟩

/-- Each economy state with an acceptance waiting; the still threshold; the delay and 1 ms short of it; both limp changes. -/
theorem meets_IdleAndLimpFollowTheirEvents :
    (∀ x, ∃ s : State, s.phase = .running ∧ s.eco.state = x ∧ s.eco.slewRates = [50] ∧ s.eco.speeds = [900] ∧
      s.eco.speedLosses = [0]) ∧
    (ready.cfg.economy.slewStill ≤ (50 : Int).natAbs ∧ (49 : Int).natAbs < ready.cfg.economy.slewStill) ∧
    (∃ s : State, s.phase = .running ∧ s.eco.state = .run ∧ s.eco.timer = some 2000 ∧
      1000 * s.cfg.economy.autoIdleDelay ≤ (s.now - 2000).toNat) ∧
    ((6999 : Time) - 2000).toNat < 1000 * ready.cfg.economy.autoIdleDelay ∧
    (∃ s : State, s.phase = .running ∧ s.eco.limpChanges = [.engage 3, .disengage]) :=
  ⟨fun x => ⟨{ ready with eco := { ready.eco with
      state := x, slewRates := [50], speeds := [900], speedLosses := [0] } }, rfl, rfl, rfl, rfl, rfl⟩, by decide,
    ⟨standing { stillEconomy with timer := some 2000 }, rfl, rfl, rfl, by decide⟩, by decide,
    ⟨{ ready with eco := { ready.eco with limpChanges := [.engage 3, .disengage] } }, rfl, rfl⟩⟩

/-- Two entries with tags 41 and 42, and a reply in hand. -/
def replied (d : List Byte) : State :=
  engaged 120 [⟨41, ⟨1500, .eco⟩, 0, false, false, 250⟩, ⟨42, ⟨1800, .dial⟩, 40, false, false, 290⟩] 42 (some d)

/-- A stray reply by each cause; each status for the older and for the younger entry; a reply in FALLBACK; sound states. -/
theorem meets_EngineReplyIsAppliedToItsEntry :
    (∀ d, (replied d).phase = .running ∧ (replied d).eng.inbox.inHand = some d ∧ (replied d).eco.state ≠ .fallback) ∧
    ((byteAt [41, 0] 1).toNat = 0 ∧ 3 < (byteAt [41, 4] 1).toNat ∧ (byteAt [40, 1] 0).toNat ∉ queueTags (replied [40, 1]).eng) ∧
    (∀ k, k = 1 ∨ k = 2 ∨ k = 3 →
      (replied [41, k]).eng.entries = [] ++ ⟨41, ⟨1500, .eco⟩, 0, false, false, 250⟩ :: [⟨42, ⟨1800, .dial⟩, 40, false, false, 290⟩] ∧
      (41 : Nat) = (byteAt [41, k] 0).toNat ∧ 1 ≤ (byteAt [41, k] 1).toNat ∧ (byteAt [41, k] 1).toNat ≤ 3 ∧
      (replied [42, k]).eng.entries = [⟨41, ⟨1500, .eco⟩, 0, false, false, 250⟩] ++ ⟨42, ⟨1800, .dial⟩, 40, false, false, 290⟩ :: [] ∧
      (42 : Nat) = (byteAt [42, k] 0).toNat ∧ (41 : Nat) ≠ 42) ∧
    (∃ s : State, s.phase = .running ∧ s.eng.inbox.inHand = some [1, 1, 0, 0] ∧ s.eco.state = .fallback) ∧
    EngineOk (replied [41, 1]) := by
  refine ⟨fun d => ⟨rfl, rfl, EconomyState.noConfusion⟩, by decide, ?_, ⟨{ replied [1, 1, 0, 0] with
    eco := { ready.eco with state := .fallback } }, rfl, rfl, rfl⟩, ?_⟩
  · rintro k (rfl | rfl | rfl) <;> decide
  · unfold EngineOk queueTags; decide

/-- R139: 255 is followed by 1, and a held tag is passed over. -/
theorem test_tags_come_round :
    [0, 254, 255].map (fun n => allocateTag { resetEngine with lastTag := n }) = [1, 255, 1] ∧
    allocateTag { resetEngine with lastTag := 255, entries := [⟨1, ⟨900, .idle⟩, 0, false, false, 250⟩] } = 2 := by decide

/-- What EntriesLeft is said of: an entry whose instant has been reached, and one that is 1 ms short of it. -/
theorem meets_EntriesLeft :
    Due (replied []) ⟨42, ⟨1800, .dial⟩, 40, false, false, 120⟩ ∧ ¬Due (replied []) ⟨42, ⟨1800, .dial⟩, 40, false, false, 121⟩ := by
  unfold Due; decide

/-- R144: an entry that becomes the oldest with its instant passed is reissued within the reply's own event. -/
theorem test_timeout_within_a_reply :
    result .engineReplyTaken
      (engaged 300 [⟨41, ⟨1500, .eco⟩, 0, false, false, 250⟩, ⟨42, ⟨1800, .dial⟩, 40, false, false, 290⟩] 42 (some [41, 1, 0, 0]))
      (fun t => (t.eng.entries.map fun e => (e.tag, e.second), t.eng.reissued)) = some ([(43, true)], 1) := by decide

/-- The oldest entry alone and with a younger one, both attempts, at the expiry instant and 1 ms before it. -/
theorem meets_OldestEntryTimesOut :
    (∀ b, EngineOk (engaged 450 [⟨43, ⟨1530, .eco⟩, 200, b, false, 450⟩] 43 none)) ∧
    EngineOk (engaged 450 [⟨43, ⟨1530, .eco⟩, 200, false, false, 450⟩, ⟨44, ⟨1190, .eco⟩, 300, false, false, 550⟩] 44 none) ∧
    ((450 : Time) - 450).toNat < 2147483648 ∧ 2147483648 ≤ ((449 : Time) - 450).toNat := by
  refine ⟨fun b => ?_, ?_, by decide, by decide⟩
  · unfold EngineOk queueTags; cases b <;> decide
  · unfold EngineOk queueTags; decide

/-- A reply in hand and the command that takes it. -/
def replying : State := { replied [41, 1, 0, 0] with pending := [.engineReplyTaken] }

theorem meets_EveryStepKeepsTheEngineQueueSound : EngineOk replying ∧ ∃ t, step replying = .next t := by
  refine ⟨?_, _, rfl⟩
  unfold EngineOk queueTags; decide

/-! ### Service and the counter store -/

/-- Every item judged, in the state of the slew ring example and in any state with the items of reset. -/
theorem itemsOk_slewRing : ItemsOk (slewRing 323999700 35900 100) := by
  unfold ItemsOk ItemOk; decide

theorem meets_SecondAdvancesTheTotals :
    (second 400).phase = .running ∧ ItemsOk (second 400) ∧
    (true = true ↔ usable (second 400).sig.records.engineSpeed = true ∧
      (second 400).cfg.service.running ≤ (second 400).sig.records.engineSpeed.value) ∧
    (false = true ↔ usable (second 399).sig.records.engineSpeed = true ∧
      (second 399).cfg.service.running ≤ (second 399).sig.records.engineSpeed.value) ∧
    ((second 400).now - (second 400).svc.nextSecond).toNat < 2147483648 ∧
    2147483648 ≤ (({ second 400 with now := 999 } : State).now - (second 400).svc.nextSecond).toNat := by
  refine ⟨rfl, ?_, by decide, by decide, by decide, by decide⟩
  unfold ItemsOk ItemOk; decide

/-- R158: the ends of the four intervals, for I = 100, W = 10, G = 5. -/
theorem test_item_conditions :
    [0, 89, 90, 99, 100, 104, 105].map (itemCondition { defaultItem with interval := 100, warnAhead := 10, grace := 5 }) =
      [.ok, .ok, .dueSoon, .dueSoon, .due, .due, .overdue] := by decide

/-- The two sides of a half turn, an absent previous value, a hard-stop report, and a reminder that is due. -/
theorem meets_SlewTravelHardStopsAndReminders :
    (slewRing 323999700 35900 100).svc.notes = [] ++ [⟨some ⟨some 35900, 100⟩, []⟩] ∧
    (∀ n ∈ ([⟨none, [⟨.engineSpeed, 800⟩]⟩] : List ServiceNote), n.slew = none) ∧ ItemsOk (slewRing 323999700 35900 100) ∧
    ((17800 - 35800) % 36000 ≤ (18000 : Int) ∧ (18000 : Int) = (17800 - 35800) % 36000) ∧
    (18000 < ((17801 : Int) - 35800) % 36000 ∧ (17999 : Int) = 36000 - (17801 - 35800) % 36000) ∧
    (∃ s : State, s.phase = .running ∧
      s.svc.notes = [⟨none, [⟨.engineSpeed, 800⟩]⟩] ++ [⟨some ⟨none, 5⟩, [⟨.engineLoad, 30⟩]⟩]) ∧
    (∃ s : State, s.phase = .running ∧ s.svc.notes = [⟨none, [⟨.engineSpeed, 800⟩]⟩]) ∧
    (∃ s : State, s.phase = .running ∧ ItemsOk s ∧ s.svc.hardStopReports = 0 + 1) ∧
    (∃ s : State, s.phase = .running ∧ ItemsOk s ∧ (s.svc.item 3).reminderDue = true ∧ (s.svc.item 4).reminderDue = false) := by
  refine ⟨rfl, by decide, itemsOk_slewRing, by decide, by decide,
    ⟨{ ready with svc := { ready.svc with
        notes := [⟨none, [⟨.engineSpeed, 800⟩]⟩, ⟨some ⟨none, 5⟩, [⟨.engineLoad, 30⟩]⟩] } }, rfl, rfl⟩,
    ⟨{ ready with svc := { ready.svc with notes := [⟨none, [⟨.engineSpeed, 800⟩]⟩] } }, rfl, rfl⟩,
    ⟨{ ready with svc := { ready.svc with hardStopReports := 1 } }, rfl, ?_, rfl⟩,
    ⟨{ slewRing 378000000 0 0 with svc := { ready.svc with
        items := ready.svc.items.set 3 ⟨378000000, 0, .overdue, some 3600, true⟩ } }, rfl, ?_, rfl, rfl⟩⟩ <;>
    (unfold ItemsOk ItemOk; decide)

/-- The content of a counter area whose bytes are all 0. -/
def zeroCounters : CounterImage :=
  { totals := zeroTotals, accumulators := List.replicate 32 0, services := List.replicate 32 0, history := [], faults := [] }

/-- R165: an area whose bytes are all 0 fails its check. -/
theorem test_zero_area_fails : countersPass ⟨zeroCounters, 0⟩ = false :=
  countersPass_zero (by simp [countWords, zeroCounters, zeroTotals, wideFields, highField, lowField, halfOf])
    (by simp [historyFields, zeroCounters, halfOf])

/-- A store controller that is free, one whose checkpoint is due, and one that is busy; the interval count at 360 and at 359;
both levels of PWR_WARN; a due checkpoint, and one in progress. -/
theorem meets_CheckpointsAreRequestedWrittenAndAbsorbed :
    ((resetStore none none).checkpointDue = false ∧ (resetStore none none).activity = .idle ∧
      (resetStore none none).storeWaiting = none ∧ (resetStore none none).reloadWaiting = false ∧
      (resetStore none none).checkpointPending = false) ∧
    (∃ v : StoreUnit, v.checkpointDue = true) ∧ (∃ v : StoreUnit, v.checkpointDue = false ∧ v.activity ≠ .idle) ∧
    (∃ s : State, s.phase = .running ∧ 360 ≤ s.svc.intervalCount) ∧
    (∃ s : State, s.phase = .running ∧ s.svc.intervalCount < 360 ∧ s.svc.intervalCount = 359) ∧ ready.pwrWarn = false ∧
    (∃ s : State, s.phase = .running ∧ s.sto.checkpointDue = true ∧ s.sto.activity = .idle) ∧
    (∃ s : State, s.phase = .running ∧ s.sto.activity = .writingCounters (counterImage ready)) :=
  ⟨by decide, ⟨{ resetStore none none with checkpointDue := true }, rfl⟩,
    ⟨{ resetStore none none with activity := .readingConfig }, rfl, by decide⟩,
    ⟨{ ready with svc := { ready.svc with intervalCount := 360 } }, rfl, by decide⟩,
    ⟨{ ready with svc := { ready.svc with intervalCount := 359 } }, rfl, by decide, rfl⟩, rfl,
    ⟨{ ready with sto := { ready.sto with checkpointDue := true } }, rfl, rfl, rfl⟩,
    ⟨{ ready with sto := { ready.sto with activity := .writingCounters (counterImage ready) } }, rfl, rfl⟩⟩

/-- The clause on a counter area that is all 0. -/
theorem meets_CheckpointsZeroArea :
    (resetStore none (some ⟨zeroCounters, 0⟩)).counterArea = some ⟨zeroCounters, 0⟩ ∧ zeroCounters.totals = ⟨0, 0, 0, 0, 0⟩ ∧
    (∀ n ∈ zeroCounters.accumulators, n = 0) ∧ (∀ n ∈ zeroCounters.services, n = 0) ∧ zeroCounters.history = [] ∧
    zeroCounters.faults = [] := ⟨rfl, rfl, by decide, by decide, rfl, rfl⟩

/-- The part with the tables of the examples, item `i` served by the request in hand. -/
def serving (i : Byte) : State := asked [9, 7, i, 0, 0, 0, 0, 0] { ready with cfg := exampleTables }

theorem meets_ServiceDoneRestartsTheItem :
    RequestInHand (serving 3) ⟨.a, [9, 7, 3, 0, 0, 0, 0, 0]⟩ 9 ∧ (serving 3).mgt.progress = none ∧
    (byteAt [9, 7, 3, 0, 0, 0, 0, 0] 2).toNat < 32 ∧ ((serving 3).cfg.item 3).enabled = true ∧
    ((serving 31).cfg.item 31).enabled = false ∧ 32 ≤ (byteAt [9, 7, 32, 0, 0, 0, 0, 0] 2).toNat ∧
    ItemsOk (serving 3) ∧ TablesOk (serving 3).cfg ∧ (serving 3).ntc.messages = [] ∧
    (∃ s : State, s.ntc.messages = [.raise 15 1]) ∧ (∀ a, .raise 15 a ∉ (serving 3).ntc.messages) := by
  refine ⟨⟨rfl, rfl, by decide, by decide⟩, rfl, by decide, rfl, rfl, by decide, ?_, tablesOk_example, rfl,
    ⟨{ ready with ntc := { ready.ntc with messages := [.raise 15 1] } }, rfl⟩, fun _ => List.not_mem_nil⟩
  unfold ItemsOk ItemOk; decide

/-- R179: after SERVICE_DONE nothing of the item's source is pending, a raise of it that waits included. -/
theorem test_service_done_clears :
    result (.serviceDone true) { serving 3 with ntc := { (serving 3).ntc with
        sources := (serving 3).ntc.sources.set 15 ⟨true, false, 1⟩, messages := [.raise 15 3, .raise 9 5] } }
      (fun t => ((t.ntc.source 15).pending, (t.ntc.source 15).enabled, t.ntc.messages)) = some (false, false, [.raise 9 5]) := by
  decide

/-- A SERVICE_DONE that lowers an accumulator. -/
theorem meets_AccumulatorsFallOnlyAtServiceDone :
    HistoriesOk (asked [9, 7, 3, 0, 0, 0, 0, 0] (slewRing 9 0 0)) ∧
    (asked [9, 7, 3, 0, 0, 0, 0, 0] (slewRing 9 0 0)).phase = .running ∧
    (∀ w, Instr.serviceDone true ≠ .fullReset w) ∧ Instr.serviceDone true ≠ .resetAsserted ∧
    result (.serviceDone true) (asked [9, 7, 3, 0, 0, 0, 0, 0] (slewRing 9 0 0))
      (fun t => decide ((t.svc.item 3).accumulator < 9)) = some true := by
  refine ⟨⟨⟨by decide, by decide⟩, by decide, by decide, ?_, ?_⟩, rfl, by decide, by decide, by decide⟩
  · intro c h; exact absurd h (by show (none : Option StoredCounters) ≠ some c; simp)
  · intro c h; exact absurd h (by show StoreActivity.idle ≠ .writingCounters c; simp)

/-! ### Notices -/

theorem noticeOk_noticing_raise :
    NoticeOk (noticing none [] [] false 4 [.raise 15 2] none) ∧
    NoticeOk (noticing (some ⟨15, 2⟩) [(9, 5)] [15] false 6 [.raise 2 17] none) := by
  unfold NoticeOk; decide

/-- A raise on an empty slot; on a slot with a maskable notice (4 the lowest), by the highest non-maskable source 3 and by a
maskable one; and on a slot with a non-maskable notice. -/
theorem meets_RaiseActsOnTheSlot :
    NoticeOk (noticing none [] [] false 4 [.raise 43 2] none) ∧
    (noticing none [] [] false 4 [.raise 43 2] none).ntc.messages = .raise 43 2 :: [] ∧ 43 < 44 ∧
    NoticeOk (noticing (some ⟨4, 2⟩) [] [4] false 4 [.raise 3 2] none) ∧
    NoticeOk (noticing (some ⟨4, 2⟩) [] [4] false 4 [.raise 5 2] none) ∧
    NoticeOk (noticing (some ⟨3, 2⟩) [] [3] false 4 [.raise 0 2] none) := by
  refine ⟨?_, rfl, by decide, ?_, ?_, ?_⟩ <;> (unfold NoticeOk; decide)

/-- A console frame with no acknowledgement (255), with the slot's and with another; a slot left empty with and without a
source ready. SET_NOTICE_ENABLE for sources 3, 4, 43 and 44. -/
theorem meets_ConsoleAndEnablesGovernTheNotices :
    (∀ d, d = [0, 0, 0, 255] ∨ d = [0, 0, 0, 9] ∨ d = [0, 0, 8, 8] →
      NoticeOk (noticing (some ⟨9, 5⟩) [(15, 3)] [9] false 10 [] (some d)) ∧
      NoticeOk (noticing (some ⟨9, 5⟩) [] [9] false 10 [] (some d)) ∧ NoticeOk (noticing none [] [] false 10 [] (some d)) ∧
      (noticing none [] [] false 10 [] (some d)).ntc.inbox.inHand = some d) ∧
    Ready (noticing none [(15, 3)] [] false 10 [] none).ntc 15 ∧ (∀ k, ¬Ready (noticing none [] [] false 10 [] none).ntc k) ∧
    (∀ k : Byte, RequestInHand (asked [15, 1, k, 1, 0, 0, 0, 0] ready) ⟨.a, [15, 1, k, 1, 0, 0, 0, 0]⟩ 15) ∧
    NoticeOk (asked [15, 1, 9, 1, 0, 0, 0, 0] (noticing none [(9, 5)] [9] false 0 [] none)) ∧
    44 ≤ (byteAt [15, 1, 44] 2).toNat ∧ (byteAt [15, 1, 3] 2).toNat < 4 ∧ 2 ≤ (byteAt [15, 1, 4, 2] 3).toNat := by
  refine ⟨?_, ?_, ?_, fun k => ⟨rfl, rfl, Nat.le_refl 8, rfl⟩, ?_, by decide, by decide, by decide⟩
  · rintro d (rfl | rfl | rfl) <;> (unfold NoticeOk; decide)
  · unfold Ready; decide
  · rintro k ⟨hk, hp, -⟩
    have h : ∀ k, k < 44 → ((noticing none [] [] false 10 [] none).ntc.source k).pending = false := by decide
    rw [h k hk] at hp
    exact absurd hp (by simp)
  · unfold NoticeOk; decide

theorem meets_EveryStepKeepsItemsJudgedAndTheSlotFilled :
    (ItemsOk { slewRing 323999700 35900 100 with pending := [.slewTravelAdvance] } ∧
      ∃ t, step { slewRing 323999700 35900 100 with pending := [.slewTravelAdvance] } = .next t) ∧
    (NoticeOk { noticing none [] [] false 4 [.raise 15 2] none with pending := [.noticeRaise] } ∧
      ∃ t, step { noticing none [] [] false 4 [.raise 15 2] none with pending := [.noticeRaise] } = .next t) :=
  ⟨⟨itemsOk_slewRing, _, rfl⟩, noticeOk_noticing_raise.1, _, rfl⟩

/-! ### Management -/

/-- A request of the given code in hand, while another is in progress or none. -/
def requesting (code : Byte) (busy : Bool) : State :=
  asked [code, 1, 0, 0, 0, 0, 0, 0]
    { ready with mgt := { ready.mgt with progress := if busy then some ⟨.store, .b, 3⟩ else none } }

theorem requestInHand_requesting (code : Byte) (busy : Bool) :
    RequestInHand (requesting code busy) ⟨.a, [code, 1, 0, 0, 0, 0, 0, 0]⟩ code.toNat :=
  ⟨rfl, rfl, Nat.le_refl 8, rfl⟩

/-- Seven and eight bytes; the codes 0 and 16; each request that a request in progress turns away. -/
theorem meets_RequestsAreCheckedAndAnswered :
    (∃ s : State, s.phase = .running ∧ s.mgt.inbox.inHand = some ⟨.a, List.replicate 7 0⟩ ∧
      (List.replicate 7 (0 : Byte)).length < 8) ∧
    (∃ s : State, s.phase = .running ∧ s.mgt.inbox.inHand = some ⟨.a, List.replicate 8 0⟩) ∧
    RequestInHand (requesting 0 false) ⟨.a, [0, 1, 0, 0, 0, 0, 0, 0]⟩ 0 ∧
    (RequestInHand (requesting 16 false) ⟨.a, [16, 1, 0, 0, 0, 0, 0, 0]⟩ 16 ∧ 15 < 16) ∧
    (∀ code, (requesting code true).mgt.progress.isSome = true ∧
      RequestInHand (requesting code true) ⟨.a, [code, 1, 0, 0, 0, 0, 0, 0]⟩ code.toNat) :=
  ⟨⟨{ ready with mgt := { ready.mgt with inbox := ⟨some ⟨.a, List.replicate 7 0⟩, none⟩ } }, rfl, rfl, by decide⟩,
    ⟨{ ready with mgt := { ready.mgt with inbox := ⟨some ⟨.a, List.replicate 8 0⟩, none⟩ } }, rfl, rfl⟩,
    requestInHand_requesting 0 false, ⟨requestInHand_requesting 16 false, by decide⟩,
    fun code => ⟨rfl, requestInHand_requesting code true⟩⟩

/-- Every read's code; table numbers at both ends and outside; fields that exist and that do not; records that exist and
that do not. -/
theorem meets_ReadsReturnWhatStandsAndClearStatsClears :
    (∀ code : Byte, RequestInHand (requesting code false) ⟨.a, [code, 1, 0, 0, 0, 0, 0, 0]⟩ code.toNat ∧
      (requesting code false).mgt.progress = none) ∧
    (tableOf 0 = none ∧ (tableOf 1).isSome = true ∧ (tableOf 10).isSome = true ∧ tableOf 11 = none) ∧
    (selectorFor .header 0 = some .active ∧ selectorFor .header 2 = none) ∧
    (fieldValue ready .sine .active 90 0 = some 32767 ∧ fieldValue ready .sine .active 91 0 = none) ∧
    ((restricted []).lim.history[(restricted []).lim.history.length - 1 - 0]? = some breachRecord ∧
      (restricted []).lim.openRecord = some breachRecord ∧ held.lim.secondRecord.isSome = true ∧
      ready.lim.history.length ≤ 0 ∧ ready.lim.openRecord = none ∧ ready.lim.secondRecord = none) ∧
    (∃ s : State, s.svc.history[s.svc.history.length - 1 - 0]? = some ⟨3, 4102, 5, 6, 7⟩) ∧ ready.svc.history.length ≤ 0 ∧
    portCode .b = 1 ∧
    (∀ code n part : Byte,
      RequestInHand (asked [code, 1, n, part, 0, 0, 0, 0] ready) ⟨.a, [code, 1, n, part, 0, 0, 0, 0]⟩ code.toNat) :=
  ⟨fun code => ⟨requestInHand_requesting code false, rfl⟩, by decide, by decide, by decide, by decide,
    ⟨{ ready with svc := { ready.svc with history := [⟨3, 4102, 5, 6, 7⟩] } }, rfl⟩, by decide, rfl,
    fun _ _ _ => ⟨rfl, rfl, Nat.le_refl 8, rfl⟩⟩

/-- What the statements on the fields that can be read suppose: banks, profiles, lists of their lengths, a checkpoint being
written and none, and indices at both ends. -/
theorem meets_FieldsReadAsTheyStand :
    TablesOk (serving 0).cfg ∧ (serving 0).ntc.sources.length = 44 ∧ (serving 0).cfg.economy.demands.length = 8 ∧
    (serving 0).cfg.economy.speeds.length = 8 ∧ (∀ i, i < 8 → ProfileOk (defaultBank.profileAt i)) ∧
    (∃ c, (replied []).eng.entries[1]? = some c) ∧ (replied []).eng.entries.length ≤ 2 ∧
    (⟨.service, 1, 32, 10, 15⟩ : FieldCount) ∈ fieldCounts ∧
    (∀ c ∈ fieldCounts, c.table = .service → 33 < c.first ∨ c.last < 33) ∧
    ((true = true ↔ ∃ c, StoreActivity.writingCounters ⟨zeroTotals, [], [], [], []⟩ = .writingCounters c) ∧
      (false = true ↔ ∃ c, StoreActivity.idle = .writingCounters c)) := by
  refine ⟨tablesOk_example, rfl, rfl, rfl, ?_, ⟨_, rfl⟩, Nat.le_refl 2, by decide, by decide, ⟨fun _ => ⟨_, rfl⟩, fun _ => rfl⟩, nofun, nofun⟩
  intro i h
  have h : i ∈ List.range 8 := List.mem_range.2 h
  revert i; unfold ProfileOk; decide

/-- Section 12.5: a few fields by their numbers, worked by hand; HEADER 19 is 255 while no entry restricts BOOM+, and ECONOMY
index 1 has the first entry's tag at 1 and its issue time at 4 and 5. -/
theorem test_read_by_number :
    [fieldValue ready .header .active 0 7, fieldValue ready .header .active 0 19, fieldValue ready .identity .active 2 133,
      fieldValue ready .identity .active 1 40, fieldValue ready .economy .active 0 39,
      fieldValue (replied []) .economy .active 1 1, fieldValue (replied []) .economy .active 1 12,
      fieldValue ready .service .active 1 14, fieldValue ready .identity .active 0 1] =
    [some 1024, some 255, some 255, some 32768, some 32768, some 41, some 40, some 65535, some 4096] := by decide

/-- A WRITE_FIELD in hand, by its argument bytes, on the tables of the examples. -/
def writing (args : List Byte) : State := asked ([3, 1] ++ args) { ready with cfg := exampleTables }

/-- The premises of each check of WRITE_FIELD, in its order. -/
theorem meets_WriteFieldIsCheckedAndReadsBack :
    RequestInHand (writing [4, 30, 0, 0, 64, 1]) ⟨.a, [3, 1, 4, 30, 0, 0, 64, 1]⟩ 3 ∧
    (writing [4, 30, 0, 0, 64, 1]).mgt.progress = none ∧ TablesOk (writing [4, 30, 0, 0, 64, 1]).cfg ∧
    (isShadow .sine = false ∧ isShadow .header = true) ∧
    (selectorFor .header 2 = none ∧ selectorFor .header 1 = some .shadow ∧ selectorFor .sine 0 = some .active) ∧
    (fieldValue ready .sine .active 91 0 = none ∧ fieldValue ready .sine .active 30 0 = some 16384) ∧
    (engineRunning (second 400) = true ∧ engineRunning (second 399) = false) ∧
    readOnly ready .sine .active 30 0 = false ∧ readOnly ready .identity .active 0 14 = true ∧
    (isHigh .identity 0 0 = true ∧ isHigh .identity 0 1 = false ∧ isHigh .sine 30 0 = false ∧ isHigh .service 4 3 = true) ∧
    (written .sine 30 0 0 32767 exampleTables).isSome = true ∧ written .sine 30 0 0 32768 exampleTables = none := by
  refine ⟨⟨rfl, rfl, by decide, by decide⟩, rfl, tablesOk_example, by decide, by decide, by decide, by decide, by decide, by decide,
    by decide, by decide, by decide⟩

/-- A high half held for the low field of a write, for another field, and none. -/
theorem meets_HeldFor :
    HeldFor { ready with mgt := { ready.mgt with heldHigh := some ⟨10, 0, 0, 3450⟩ } } .identity 0 1 3450 ∧
    HeldFor { ready with mgt := { ready.mgt with heldHigh := some ⟨10, 0, 0, 3450⟩ } } .identity 0 3 0 ∧
    HeldFor { ready with svc := { ready.svc with heldHigh := some ⟨3, 3, 5493⟩ } } .service 4 4 5493 ∧
    HeldFor ready .service 4 4 0 := by
  refine ⟨⟨nofun, fun _ => ⟨?_, fun h => absurd (h _ rfl) (by decide)⟩⟩, ⟨nofun, fun _ => ⟨?_, fun _ => rfl⟩⟩,
    ⟨fun _ => ⟨?_, fun h => absurd (h _ rfl) (by decide)⟩, fun h => absurd rfl h⟩,
    ⟨fun _ => ⟨nofun, fun _ => rfl⟩, fun h => absurd rfl h⟩⟩
  · rintro x ⟨⟩ - - -; rfl
  · rintro x ⟨⟩ - - h; exact absurd h (by decide)
  · rintro x ⟨⟩ - -; rfl

/-- What WRITE_FIELD does with the ends of a plain range, and with the rules R8, R70, R122, R161 and R188. -/
theorem meets_RuledWrite :
    (⟨.geometry, true, 0, 2, false, 500, 20000⟩ ∈ plainRanges ∧ (written .geometry 0 2 0 500 exampleTables).isSome = true ∧
      written .geometry 0 2 0 499 exampleTables = none) ∧
    (written .frame 12 8 0 7 exampleTables = none ∧ (written .frame 12 8 0 5 exampleTables).isSome = true) ∧
    (written .economy 0 13 0 300 exampleTables = none ∧ (written .economy 0 13 0 299 exampleTables).isSome = true) ∧
    ((written .service 4 4 5493 10240 exampleTables).isSome = true ∧ written .service 4 4 0 10240 exampleTables = none) ∧
    written .identity 0 3 0x0D7A 0x1000 exampleTables = none := by decide

/-- R12, R40: an accepted write to a frame table entry resets its screening values and empties its window. -/
theorem test_write_resets_screening :
    result (.writeField true) { writing [1, 12, 16, 0, 0, 7] with
        fwd := { ready.fwd with screening := ready.fwd.screening.set 12 ⟨some 9, 4⟩ }
        sig := { ready.sig with windows := ready.sig.windows.set 12 [5] } }
      (fun t => (t.screeningOf 12, t.sig.windows.getD 12 [9], (t.cfg.frameEntry 12).minLength)) =
    some (⟨none, 0⟩, [], 7) := by decide

/-! ### The areas and start-up -/

/-- The part with the tables of the examples in force and in the configuration area, and the request in progress that a read
of that area serves. -/
def reloading (x : LimiterUnit) (area : Option StoredConfig) : State :=
  { partIn x with
    sto := { resetStore area none with activity := .readingConfig }
    mgt := { ready.mgt with progress := some ⟨.reload, .a, 4⟩ } }

theorem meets_StoreAndReloadRunToTheirEnd :
    (RequestInHand (requesting 7 false) ⟨.a, [7, 1, 0, 0, 0, 0, 0, 0]⟩ 7 ∧
      RequestInHand (requesting 8 false) ⟨.a, [8, 1, 0, 0, 0, 0, 0, 0]⟩ 8 ∧ (requesting 8 false).mgt.progress = none ∧
      (requesting 8 false).lim.state ≠ .hold) ∧
    (∃ s : State, s.phase = .running ∧ s.sto.storeWaiting = some (imageOf defaultTables) ∧ s.sto.activity = .idle ∧
      s.sto.checkpointDue = false) ∧
    (∃ s : State, s.phase = .running ∧ s.sto.storeWaiting = some (imageOf defaultTables) ∧ s.sto.activity ≠ .idle) ∧
    (∃ s : State, s.phase = .running ∧ s.sto.activity = .writingConfig (imageOf defaultTables) ∧
      s.mgt.progress = some ⟨.store, .a, 4⟩ ∧ s.sto.storeWaiting = none) ∧
    (∃ s : State, s.phase = .running ∧ s.sto.reloadWaiting = true ∧ s.sto.activity = .idle ∧ s.sto.checkpointDue = false) ∧
    (∃ s : State, s.phase = .running ∧ s.sto.reloadWaiting = true ∧ s.sto.checkpointDue = true) :=
  ⟨⟨requestInHand_requesting 7 false, requestInHand_requesting 8 false, rfl, by decide⟩,
    ⟨{ ready with sto := { ready.sto with storeWaiting := some (imageOf defaultTables) } }, rfl, rfl, rfl, rfl⟩,
    ⟨{ ready with sto := { ready.sto with storeWaiting := some (imageOf defaultTables), activity := .readingConfig } }, rfl, rfl,
      StoreActivity.noConfusion⟩,
    ⟨{ ready with
        sto := { ready.sto with activity := .writingConfig (imageOf defaultTables) }
        mgt := { ready.mgt with progress := some ⟨.store, .a, 4⟩ } }, rfl, rfl, rfl, rfl⟩,
    ⟨{ ready with sto := { ready.sto with reloadWaiting := true } }, rfl, rfl, rfl, rfl⟩,
    ⟨{ ready with sto := { ready.sto with reloadWaiting := true, checkpointDue := true } }, rfl, rfl, rfl⟩⟩

/-- The clause on an image that is all 0. -/
theorem meets_StoreZeroImage : ∀ f ∈ imageFields
    ⟨[], [], [0, 0, 0, 0, 0], List.replicate 91 0, ⟨[], [], []⟩, ⟨[], [], []⟩, 0, [], [], [], []⟩, f = 0 := by
  simp [imageFields, bankFields]

/-- The area failing its check, the limiter in HOLD, and an image to apply with valid and with invalid geometry, stored with
a good check; a frame for the signal unit held back. -/
theorem meets_ReloadAppliesTheImageOrNothing :
    (∀ x area, (reloading x area).phase = .running ∧ (reloading x area).sto.activity = .readingConfig ∧
      (reloading x area).mgt.progress = some ⟨.reload, .a, 4⟩ ∧ (reloading x area).env.activation = none) ∧
    (reloading ready.lim none).sto.configArea = none ∧ (reloading held.lim none).lim.state = .hold ∧
    (∀ c, (reloading ready.lim (some (storedConfig c))).sto.configArea = some ⟨c, imageCheck c⟩ ∧
      imageSum c + imageCheck c = 65535) ∧
    (∀ area, (reloading ready.lim area).lim.state ≠ .hold) ∧
    geometryValid (loadTables (imageOf exampleTables)).geometry = true ∧
    geometryValid (loadTables (imageOf defaultTables)).geometry = false ∧
    (∃ s : State, s.fwd.held = some (.signal none 12 ⟨700, [1]⟩ none)) ∧ ready.svc.items.length = 32 := by
  refine ⟨fun x area => ⟨rfl, rfl, rfl, rfl⟩, rfl, rfl, fun c => ⟨rfl, of_decide_eq_true (configPasses_stored c)⟩, fun _ => LimiterState.noConfusion, ?_, ?_,
    ⟨{ ready with fwd := { ready.fwd with held := some (.signal none 12 ⟨700, [1]⟩ none) } }, rfl⟩, rfl⟩ <;> decide +kernel

/-- Both areas never written; both good; and for either sum a check that is not good. -/
theorem meets_StartUpAppliesAndRestores :
    State.reset.phase = .startUp ∧ State.reset.sto.configArea = none ∧ State.reset.sto.counterArea = none ∧
    State.reset.lim.state = .startup ∧ State.reset.svc.limpHolds = false ∧ State.reset.eco.limpChanges = [] ∧
    (∀ c k, ∃ s : State, s.phase = .startUp ∧ s.lim.state = .startup ∧ s.sto.configArea = some (storedConfig c) ∧
      imageSum c + (storedConfig c).check = 65535 ∧ s.sto.counterArea = some (storedCounters k) ∧
      counterSum k + (storedCounters k).check = 65535) ∧
    (∀ x : Half, x + (0 - x) ≠ 65535) :=
  ⟨rfl, rfl, rfl, rfl, rfl, rfl,
    fun c k => ⟨State.afterReset [] false false (some (storedConfig c)) (some (storedCounters k)), rfl, rfl, rfl,
      of_decide_eq_true (configPasses_stored c), rfl, of_decide_eq_true (countersPass_stored k)⟩, fun x => by bv_omega⟩

/-- A checkpoint due, and the command that starts it. -/
def writingOut : State :=
  { ready with pending := [.checkpointStart], sto := { ready.sto with checkpointDue := true } }

theorem meets_EveryStepKeepsRequestsAndHistoriesSound :
    RequestOk writingOut ∧ HistoriesOk writingOut ∧ ∃ t, step writingOut = .next t := by
  refine ⟨?_, ⟨⟨by decide, by decide⟩, by decide, by decide, ?_, ?_⟩, _, rfl⟩
  · unfold RequestOk; decide
  · intro c h; exact absurd h (by show (none : Option StoredCounters) ≠ some c; simp)
  · intro c h; exact absurd h (by show StoreActivity.idle ≠ .writingCounters c; simp)

theorem meets_EveryStepKeepsTheTablesInRange :
    TablesOk { writing [4, 30, 0, 0, 64, 1] with pending := [.writeField true] }.cfg ∧
    ∃ t, step { writing [4, 30, 0, 0, 64, 1] with pending := [.writeField true] } = .next t := ⟨tablesOk_example, _, rfl⟩

/-- R191 and R122: the settings of the built-in defaults stored with limp 2000 above max 1900, and with demands 0, 300, 300,
1000, of which two lead and ascend; R188: a request identifier equal to the reply identifier gives all five defaults. -/
theorem test_load_corrections :
    (loadEconomy ((economyWords defaultEconomy).set 2 2000)).limp = 1900 ∧
    (loadEconomy ((economyWords defaultEconomy).set 2 0)).limp = 900 ∧
    (loadEconomy ((economyWords defaultEconomy).set 15 300)).pointCount = 2 ∧
    (loadEconomy ((economyWords defaultEconomy).set 14 0)).demands = [0, 300, 700, 1000, 1000, 1000, 1000, 1000] ∧
    (loadFrame ((frameWords { inclinometer with offsets := ⟨some 5, none, none, none, none, none⟩ }))).enabled = false ∧
    (loadIdentity (identityWords { defaultIdentity with request := 7, reply := 7 })).reply = 0x0D7A1001 := by decide

/-- What EconomyLoaded supposes of a stored curve: two points lead and ascend, the third does not. -/
theorem meets_EconomyLoaded :
    2 ≤ 4 ∧ (([0, 300, 300, 1000] : List Nat).take 2).Pairwise (fun x y => x < y) ∧
    ¬(([0, 300, 300, 1000] : List Nat).take 3).Pairwise (fun x y => x < y) := by decide

theorem meets_StoredTablesLoadBack :
    TablesOk exampleTables ∧ ∀ e ∈ exampleTables.frame, entryBreaks e = true → e.enabled = false :=
  ⟨tablesOk_example, by decide⟩

end Sys2Proof.Tests
end

section
/-! The signal unit and the position unit: how a raw value is read and calibrated, what a frame, a check error report and an
expiry do to the signal records, and what a computation and a loss do to the position record. -/
namespace Sys2Proof.Machine

/-! ## Raw and calibrated values (R26 to R28) -/

/-- A 16-bit value from its two bytes, as a number. -/
theorem half_toNat (hi lo : Byte) : (half hi lo).toNat = 256 * hi.toNat + lo.toNat := by
  have hlo : lo.toNat < 2 ^ 8 := lo.isLt
  unfold half
  rw [BitVec.toNat_append, ← Nat.shiftLeft_add_eq_or_of_lt hlo, Nat.shiftLeft_eq]
  omega

/-- The first byte of a role is the high one, unless its entry has the low byte first (R26). -/
theorem rawHalf_toNat (e : SignalEntry) (d : List Byte) :
    (rawHalf e d).toNat =
      if e.lowFirst then 256 * (byteAt d (e.offset + 1)).toNat + (byteAt d e.offset).toNat
      else 256 * (byteAt d e.offset).toNat + (byteAt d (e.offset + 1)).toNat := by
  unfold rawHalf halfAt
  split <;> exact half_toNat _ _

theorem rawValue_of_unsigned {e : SignalEntry} (h : e.signed = false) (d : List Byte) :
    rawValue e d = (rawHalf e d).toNat := by
  simp [rawValue, h]

/-- A signed raw value is in two's complement (R26). -/
theorem rawValue_of_signed {e : SignalEntry} (h : e.signed = true) (d : List Byte) :
    rawValue e d = if (rawHalf e d).toNat < 32768 then ((rawHalf e d).toNat : Int) else (rawHalf e d).toNat - 65536 := by
  simp only [rawValue, h, if_true, BitVec.toInt_eq_toNat_cond]
  split <;> split <;> omega

theorem rawValue_range (e : SignalEntry) (d : List Byte) : -32768 ≤ rawValue e d ∧ rawValue e d ≤ 65535 := by
  have hw : (rawHalf e d).toNat < 65536 := (rawHalf e d).isLt
  cases h : e.signed with
  | false => rw [rawValue_of_unsigned h]; omega
  | true => rw [rawValue_of_signed h]; split <;> omega

theorem calibrated_slewAngle (e : SignalEntry) (d : List Byte) :
    calibrated .slewAngle e d = (rawValue e d + e.calibration) % 36000 := rfl

theorem calibrated_of_ne_slewAngle {r : Role} (h : r ≠ .slewAngle) (e : SignalEntry) (d : List Byte) :
    calibrated r e d = rawValue e d + e.calibration := by
  cases r with
  | slewAngle => exact absurd rfl h
  | _ => rfl

theorem acceptedValue_eq_some {r : Role} {e : SignalEntry} {d : List Byte} (hd : e.offset + 1 < d.length)
    (hv : e.validMin ≤ calibrated r e d ∧ calibrated r e d ≤ e.validMax) :
    acceptedValue r e d = some (calibrated r e d) := by
  unfold acceptedValue
  rw [if_neg (by omega)]
  exact if_pos hv

/-- A frame too short for the second byte and a value outside the valid window are the two refusals (R26, R28). -/
theorem acceptedValue_eq_none_iff (r : Role) (e : SignalEntry) (d : List Byte) :
    acceptedValue r e d = none ↔
      d.length ≤ e.offset + 1 ∨ calibrated r e d < e.validMin ∨ e.validMax < calibrated r e d := by
  unfold acceptedValue
  by_cases hd : d.length ≤ e.offset + 1
  · simp [hd]
  · simp only [hd, if_false, false_or, ite_eq_right_iff, reduceCtorEq, imp_false]
    omega

/-- A link angle outside its range is outside every valid window (R27, R28). -/
theorem acceptedValue_link_outside {r : Role} {e : SignalEntry} {d : List Byte} (he : SignalEntryOk r e)
    (hr : r = .boomAngle ∨ r = .armAngle ∨ r = .bucketAngle)
    (ho : rawValue e d + e.calibration < -18000 ∨ 17999 < rawValue e d + e.calibration) :
    acceptedValue r e d = none := by
  obtain ⟨-, -, -, -, hmin, -, hmax, -⟩ := he
  have hne : r ≠ .slewAngle := by rcases hr with rfl | rfl | rfl <;> decide
  have hrange : roleMin r = -18000 ∧ roleMax r = 17999 := by rcases hr with rfl | rfl | rfl <;> decide
  rw [acceptedValue_eq_none_iff, calibrated_of_ne_slewAngle hne]
  omega

/-- Settles O15: the two bytes read as a number, and the window of R28 by the two lemmas on `acceptedValue`. -/
theorem calibratedValueIsNotWrapped : Obligations.CalibratedValueIsNotWrapped := by
  refine ⟨fun r e d first second high low word hf hs hhigh hlow hw => ?_, fun r e d he => ?_⟩
  · have hword : (rawHalf e d).toNat = word := by
      rw [rawHalf_toNat, ← hf, ← hs, hw]
      cases hl : e.lowFirst with
      | false => obtain ⟨rfl, rfl⟩ := hhigh hl; rfl
      | true => obtain ⟨rfl, rfl⟩ := hlow hl; rfl
    refine ⟨fun hu => ?_, fun hsg => ?_, fun hd => ?_, fun hd => ⟨acceptedValue_eq_some hd, fun ho => ?_⟩⟩
    · rw [rawValue_of_unsigned hu, hword]
    · rw [rawValue_of_signed hsg, hword]
    · exact (acceptedValue_eq_none_iff r e d).2 (.inl hd)
    · exact (acceptedValue_eq_none_iff r e d).2 (.inr ho)
  · have ⟨_, _, hclo, hchi, _⟩ := he
    obtain ⟨hlo, hhi⟩ := rawValue_range e d
    have hmod := calibrated_slewAngle e d
    exact ⟨by omega, by omega, hmod, by omega, by omega, fun hr => calibrated_of_ne_slewAngle hr e d,
      acceptedValue_link_outside he⟩

/-! ## The judgement of a frame (R25 to R28, R35) -/

theorem handles_iff (t : PerRole SignalEntry) (k : Nat) (r : Role) :
    handles t k r = true ↔ (t.get r).enabled = true ∧ (t.get r).entry = k := by
  simp [handles]

theorem taken_eq (t : PerRole SignalEntry) (k : Nat) (d : List Byte) (r : Role) :
    taken t k d r =
      if (t.get r).enabled = true ∧ (t.get r).entry = k then acceptedValue r (t.get r) d else none := by
  simp only [taken, handles_iff]

section
variable {t : PerRole SignalEntry} {k : Nat} {d : List Byte} {time : Time} {old : PerRole SignalRecord} {r : Role}

theorem judgedRecord_of_not_handles (h : ¬handles t k r = true) : judgedRecord t k d time old r = old.get r := by
  simp [judgedRecord, h]

theorem judgedRecord_of_accepted {v : Int} (h : handles t k r = true) (hv : acceptedValue r (t.get r) d = some v) :
    judgedRecord t k d time old r = { old.get r with value := v, state := .fresh, accepted := some time } := by
  simp [judgedRecord, h, hv]

theorem judgedRecord_of_refused (h : handles t k r = true) (hv : acceptedValue r (t.get r) d = none) :
    judgedRecord t k d time old r =
      { old.get r with outOfRange := min ((old.get r).outOfRange + 1) 65535 } := by
  simp [judgedRecord, h, hv, countUp]

end

theorem previousValue_eq (x : SignalRecord) :
    previousValue x = if x.state = .absent then none else some x.value := by
  unfold previousValue
  cases x.state <;> rfl

/-- A notification that names SLEW_ANGLE is made at the service unit, with the value accepted before (R35). -/
theorem ServiceUnit.accept_serviceNote_some {t : PerRole SignalEntry} {k : Nat} {d : List Byte} {v : Int} (u : ServiceUnit)
    (old : PerRole SignalRecord) (h : taken t k d .slewAngle = some v) :
    u.accept (serviceNote t k d old) =
      { u with notes := u.notes ++ [⟨some ⟨previousValue old.slewAngle, v⟩, takenOf t k d engineRoles⟩] } := by
  simpa [serviceNote, h] using u.accept_cases (serviceNote t k d old)

/-- Without SLEW_ANGLE the service unit is told of the engine-side roles alone (R35). -/
theorem ServiceUnit.accept_serviceNote_none {t : PerRole SignalEntry} {k : Nat} {d : List Byte} (u : ServiceUnit)
    (old : PerRole SignalRecord) (h : taken t k d .slewAngle = none) :
    u.accept (serviceNote t k d old) =
      if takenOf t k d engineRoles = [] then u
      else { u with notes := u.notes ++ [⟨none, takenOf t k d engineRoles⟩] } := by
  have hc := u.accept_cases (serviceNote t k d old)
  by_cases he : takenOf t k d engineRoles = []
  · simpa [serviceNote, h, he] using hc
  · simpa [serviceNote, h, he] using hc

theorem exec_signalFrame {s : State} {t : PerRole SignalEntry} {k : Nat} {d : List Byte} {time : Time}
    (hp : s.phase = .running) (hi : s.sig.inbox.inHand = some (.frame t k d time)) :
    exec .signalFrame s = .next (handleSignalFrame t k d time s.finishSignal) := by
  change execSignalFrame s = _
  simp only [execSignalFrame, whileRunning_running _ hp, hi]

/-! ## The notifications of the position unit (R51) -/

theorem PositionUnit.notify_of_free {u : PositionUnit} (h : u.inHand = none) (n : AcceptNote) :
    u.notify n = { u with inHand := some (.accepted n) } := by
  simpa [h] using u.notify_cases n

theorem PositionUnit.notify_of_none_waiting {u : PositionUnit} (h : u.inHand.isSome = true) (hw : u.waiting = none)
    (n : AcceptNote) : u.notify n = { u with waiting := some n } := by
  simpa [h, Option.isSome_iff_ne_none.1 h, hw] using u.notify_cases n

theorem PositionUnit.notify_of_waiting {u : PositionUnit} {w : AcceptNote} (h : u.inHand.isSome = true)
    (hw : u.waiting = some w) (n : AcceptNote) : u.notify n = { u with waiting := some (w.join n) } := by
  simpa [h, Option.isSome_iff_ne_none.1 h, hw] using u.notify_cases n

/-- A joined notification names every role of either (R51). -/
theorem AcceptNote.exists_mem_join (w n : AcceptNote) (r : Role) :
    (∃ v, ⟨r, v⟩ ∈ (w.join n).values) ↔ (∃ v, ⟨r, v⟩ ∈ w.values) ∨ ∃ v, ⟨r, v⟩ ∈ n.values := by
  simp only [AcceptNote.mem_join]
  constructor
  · rintro ⟨v, hv | ⟨hv, -⟩⟩
    · exact .inr ⟨v, hv⟩
    · exact .inl ⟨v, hv⟩
  · intro h
    by_cases hn : ∃ v, ⟨r, v⟩ ∈ n.values
    · obtain ⟨v, hv⟩ := hn
      exact ⟨v, .inl hv⟩
    · obtain ⟨v, hv⟩ := h.resolve_right hn
      exact ⟨v, .inr ⟨hv, not_exists.1 hn⟩⟩

/-- Settles O14: the state after the frame is `handleSignalFrame`'s, read record by record and block by block. -/
theorem signalFrameJudgesEveryRole : Obligations.SignalFrameJudgesEveryRole := by
  refine ⟨?_, fun u n => ⟨fun h => PositionUnit.notify_of_free h n,
    fun h hw => PositionUnit.notify_of_none_waiting h hw n,
    fun w h hw => ⟨(w.join n).values, PositionUnit.notify_of_waiting h hw n, AcceptNote.exists_mem_join w n,
      AcceptNote.mem_join w n⟩⟩, taken_eq⟩
  intro s tb k d time position engine hp hi hpos heng
  obtain rfl : position = takenOf tb k d positionRoles := hpos
  obtain rfl : engine = takenOf tb k d engineRoles := heng
  have hrec : ∀ r, (handleSignalFrame tb k d time s.finishSignal).sig.records.get r =
      judgedRecord tb k d time s.sig.records r := PerRole.get_tabulate _
  have hsvc : (handleSignalFrame tb k d time s.finishSignal).svc =
      s.svc.accept (serviceNote tb k d s.sig.records) := rfl
  refine ⟨_, exec_signalFrame hp hi, rfl, rfl, fun r hr => ?_, fun r v he hk hv => ?_, fun r he hk hv => ?_, rfl,
    fun v hv => ?_, fun hv => ⟨fun hn => ?_, fun hn => ?_⟩, rfl⟩
  · rw [hrec, judgedRecord_of_not_handles (mt (handles_iff tb k r).1 hr)]
  · rw [hrec, judgedRecord_of_accepted ((handles_iff tb k r).2 ⟨he, hk⟩) hv]
  · rw [hrec, judgedRecord_of_refused ((handles_iff tb k r).2 ⟨he, hk⟩) hv]
  · rw [hsvc, ServiceUnit.accept_serviceNote_some _ _ hv, previousValue_eq]
  · rw [hsvc, ServiceUnit.accept_serviceNote_none _ _ hv, if_pos hn]
  · rw [hsvc, ServiceUnit.accept_serviceNote_none _ _ hv, if_neg hn]

/-! ## Check error reports (R39) -/

theorem exec_checkErrorReport {s : State} {k : Nat} {time : Time} (hp : s.phase = .running)
    (hi : s.sig.inbox.inHand = some (.checkError k time)) :
    exec .checkErrorReport s = .next (handleCheckError k time s.finishSignal) := by
  change execCheckErrorReport s = _
  simp only [execCheckErrorReport, whileRunning_running _ hp, hi]

theorem handleCheckError_of_lt {s : State} {k : Nat} {time : Time} (h : (pruned time (s.windowOf k)).length < 8) :
    handleCheckError k time s = s.setWindow k (pruned time (s.windowOf k)) :=
  if_neg (Nat.not_le.2 h)

theorem handleCheckError_of_le {s : State} {k : Nat} {time : Time} (h : 8 ≤ (pruned time (s.windowOf k)).length) :
    handleCheckError k time s = (s.setWindow k []).raise srcSignalDegraded k :=
  if_pos h

/-- Settles O16: a window of fewer than 8 times is kept, and one of 8 raises the source. -/
theorem eighthCheckErrorWithinASecondRaises : Obligations.EighthCheckErrorWithinASecondRaises := by
  intro s k time w hp hi hw
  have hwin : pruned time (s.finishSignal.windowOf k) = w := hw.symm
  rw [exec_checkErrorReport hp hi]
  refine ⟨fun hlt => ?_, fun hle => ?_⟩
  · rw [handleCheckError_of_lt (by rwa [hwin]), hwin]
    rfl
  · rw [handleCheckError_of_le (by rwa [hwin])]
    rfl

/-! ## Expiries (R30, R31, R36) -/

/-- A record with an acceptance has reached an age exactly when that much part time has passed, modulo 2^32 (R30). -/
theorem ageReached_iff {s : State} {r : Role} {t0 : Time} (h : (s.sig.records.get r).accepted = some t0) (ms : Nat) :
    ageReached s r ms = true ↔ ms ≤ (s.now - t0).toNat := by
  rw [ageReached, h]
  exact decide_eq_true_iff

theorem exec_timeoutExpiry {s : State} (hp : s.phase = .running) (r : Role) :
    exec (.timeoutExpiry r) s = .next (expireTimeout r s) :=
  whileRunning_running _ hp

theorem exec_holdExpiry {s : State} (hp : s.phase = .running) (r : Role) :
    exec (.holdExpiry r) s = .next (expireHold r s) :=
  whileRunning_running _ hp

section
variable {s : State} {r : Role}

theorem expireTimeout_of_due (hf : (s.sig.records.get r).state = .fresh)
    (ha : ageReached s r (s.cfg.signal.get r).timeout = true) :
    expireTimeout r s =
      if 0 < (s.cfg.signal.get r).hold then s.setFreshness r .holding else (s.setFreshness r .lost).notifyLost r :=
  if_pos ⟨hf, ha⟩

theorem expireTimeout_of_early (ha : ¬ageReached s r (s.cfg.signal.get r).timeout = true) : expireTimeout r s = s :=
  if_neg fun h => ha h.2

theorem expireHold_of_due (hh : (s.sig.records.get r).state = .holding)
    (ha : ageReached s r ((s.cfg.signal.get r).timeout + (s.cfg.signal.get r).hold) = true) :
    expireHold r s = (s.setFreshness r .lost).notifyLost r :=
  if_pos ⟨hh, ha⟩

theorem expireHold_of_early (ha : ¬ageReached s r ((s.cfg.signal.get r).timeout + (s.cfg.signal.get r).hold) = true) :
    expireHold r s = s :=
  if_neg fun h => ha h.2

end

/-- Settles O17: each expiry is due or early, and a loss is told as `State.notifyLost_cases` says. -/
theorem silentSignalAgesToLost : Obligations.SilentSignalAgesToLost := by
  intro s r t0 aged lost hp ht haged hposition hengine hother
  have hlost : (s.setFreshness r .lost).notifyLost r = lost := by
    rcases State.notifyLost_cases (s.setFreshness r .lost) r with ⟨hr, h⟩ | ⟨hr, h⟩ | ⟨hr, hne, h⟩
    · rw [h, hposition hr]; rfl
    · rw [h, hengine hr]; rfl
    · rw [h, hother hr hne]; rfl
  have hage := ageReached_iff ht
  rw [exec_timeoutExpiry hp, exec_holdExpiry hp]
  refine ⟨fun hf hd => ?_, fun hd => ?_, fun hh hd => ?_, fun hd => ?_⟩
  · rw [expireTimeout_of_due hf ((hage _).2 hd)]
    refine ⟨fun h0 => ?_, fun h0 => ?_⟩
    · rw [if_pos h0, haged]; rfl
    · rw [if_neg (by omega), hlost]
  · rw [expireTimeout_of_early (mt (hage _).1 (by omega))]
  · rw [expireHold_of_due hh ((hage _).2 hd), hlost]
  · rw [expireHold_of_early (mt (hage _).1 (by omega))]

/-! ## The position record (R34, R42, R49, R52, R54, R55) -/

theorem usable_iff (x : SignalRecord) : usable x = true ↔ x.state = .fresh ∨ x.state = .holding := by
  unfold usable
  cases x.state <;> simp

theorem canCompute_iff (s : State) : canCompute s = true ↔
    (∀ r ∈ positionRoles, usable (s.sig.records.get r) = true) ∧ geometryValid s.cfg.geometry = true := by
  simp [canCompute, positionUsable]

theorem AcceptNote.named_any_isAngle {n : AcceptNote} (h : ∃ x ∈ n.values, isAngle x.role = true) :
    n.named.any isAngle = true := by
  simpa [AcceptNote.named] using h

/-- Saturation changes a value exactly when it lies outside the range (R49). -/
theorem clampInt_ne_iff {lo hi : Int} (h : lo ≤ hi) (x : Int) : clampInt lo hi x ≠ x ↔ x < lo ∨ hi < x := by
  unfold clampInt
  omega

/-- The clamped flag: R or H lies outside its range (R49). -/
theorem withTip_clamped (r h : Int) (time : Time) (p : PositionRecord) :
    (withTip r h time p).clamped = decide (r < 0 ∨ 32767 < r ∨ h < -32768 ∨ 32767 < h) := by
  have hr := clampInt_ne_iff (lo := 0) (hi := 32767) (by decide) r
  have hh := clampInt_ne_iff (lo := -32768) (hi := 32767) (by decide) h
  simp only [withTip, hr, hh, ← Bool.decide_or, or_assoc]

/-- The tip radius and height before saturation, from the values of the link roles (R48). -/
theorem computedRecord_of_canCompute {s : State} (hc : canCompute s = true) (time : Time) :
    computedRecord time s = withTip
      (radiusSum s.cfg.sine s.cfg.geometry s.sig.records.boomAngle.value s.sig.records.armAngle.value
        s.sig.records.bucketAngle.value)
      (heightSum s.cfg.sine s.cfg.geometry s.sig.records.boomAngle.value s.sig.records.armAngle.value
        s.sig.records.bucketAngle.value) time (takeSlew s.sig.records s.pos.record) := by
  simp [computedRecord, hc]

theorem computedRecord_of_not_canCompute {s : State} (hc : canCompute s = false) (time : Time) :
    computedRecord time s = { takeSlew s.sig.records s.pos.record with valid := false } := by
  simp [computedRecord, hc]

theorem exec_positionComputation {s : State} {n : AcceptNote} (hp : s.phase = .running)
    (hi : s.pos.inHand = some (.accepted n)) (ha : ∃ x ∈ n.values, isAngle x.role = true) :
    exec .positionComputation s = .next (computePosition n.time s) := by
  change execPositionComputation s = _
  simp only [execPositionComputation, whileRunning_running _ hp, hi, AcceptNote.named_any_isAngle ha, if_true]

/-- A computation replaces the record, hands it on to the envelope unit and to the shaping unit, and ends the work in hand
(R52, R55). -/
theorem computePosition_eq (time : Time) (s : State) :
    computePosition time s = { s with
      pos := { s.pos with record := computedRecord time s }.finish
      env := { s.env with
        inbox := s.env.inbox.replace ⟨computedRecord time s, limiterPart (canCompute s) (computedRecord time s)⟩ }
      shp := { s.shp with positions := s.shp.positions ++ [⟨computedRecord time s, s.now⟩] } } := rfl

theorem exec_lossNotification {s : State} {n : LossNote} (hp : s.phase = .running)
    (hi : s.pos.inHand = some (.loss n)) :
    exec .lossNotification s = .next (losePosition s).finishPosition := by
  change execLossNotification s = _
  simp only [execLossNotification, whileRunning_running _ hp, hi]

/-! ## What waits at the position unit and at the envelope unit (R51, R67) -/

theorem PositionUnit.notifyLoss_of_free {u : PositionUnit} (h : u.inHand = none) (n : LossNote) :
    u.notifyLoss n = { u with inHand := some (.loss n) } := by
  simp [PositionUnit.notifyLoss, h]

theorem PositionUnit.notifyLoss_of_busy {u : PositionUnit} (h : u.inHand.isSome = true) (n : LossNote) :
    u.notifyLoss n = { u with losses := u.losses ++ [n] } := by
  obtain ⟨x, hx⟩ := Option.isSome_iff_exists.1 h
  simp [PositionUnit.notifyLoss, hx]

theorem PositionUnit.finish_of_loss {u : PositionUnit} {l : LossNote} {rest : List LossNote} (h : u.losses = l :: rest) :
    u.finish = { u with inHand := some (.loss l), losses := rest } := by
  simp [PositionUnit.finish, h]

theorem PositionUnit.finish_of_no_loss {u : PositionUnit} (h : u.losses = []) :
    u.finish = { u with inHand := u.waiting.map .accepted, waiting := none } := by
  simp [PositionUnit.finish, h]

theorem Inbox.replace_of_free {b : Inbox EnvelopeHandOff} (h : b.inHand = none) (x : EnvelopeHandOff) :
    b.replace x = { b with inHand := some x } := by
  simp [Inbox.replace, h]

theorem Inbox.replace_of_none_waiting {b : Inbox EnvelopeHandOff} (h : b.inHand.isSome = true) (hw : b.waiting = none)
    (x : EnvelopeHandOff) : b.replace x = { b with waiting := some x } := by
  obtain ⟨y, hy⟩ := Option.isSome_iff_exists.1 h
  simp [Inbox.replace, hy, hw]

theorem Inbox.replace_of_waiting {b : Inbox EnvelopeHandOff} {w : EnvelopeHandOff} (h : b.inHand.isSome = true)
    (hw : b.waiting = some w) (x : EnvelopeHandOff) :
    b.replace x = { b with waiting := some ⟨x.record, w.forLimiter ++ x.forLimiter⟩ } := by
  obtain ⟨y, hy⟩ := Option.isSome_iff_exists.1 h
  simp [Inbox.replace, hy, hw]

/-- Settles O18: the record given field by field is `computedRecord`, and the rest is what `computePosition` hands on. -/
theorem positionComputedOrInvalid : Obligations.PositionComputedOrInvalid := by
  refine ⟨?_, ?_, usable_iff, ?_, ?_, ?_⟩
  · intro s n p q hp hi ha hpsi homega hq
    rw [exec_positionComputation hp hi ha, computePosition_eq, hq]
    refine ⟨fun hc r h hr hh hpr hph hclamped hat hcount hvalid => ?_, fun hc hrec => ?_⟩
    · have hrecord : computedRecord n.time s = p := by
        rw [computedRecord_of_canCompute hc, ← hr, ← hh]
        rw [← withTip_clamped r h n.time (takeSlew s.sig.records s.pos.record)] at hclamped
        cases p
        subst hpsi homega hpr hph hclamped hat hcount hvalid
        rfl
      rw [hrecord, hc]
      rfl
    · have hrecord : computedRecord n.time s = p := by
        rw [computedRecord_of_not_canCompute hc, hrec, hpsi, homega]
        rfl
      rw [hrecord, hc]
      rfl
  · intro s n p hp hi hrec
    rw [exec_lossNotification hp hi, hrec]
    rfl
  · intro s
    rw [canCompute_iff, geometryValid, decide_eq_true_iff]
    rfl
  · intro u n
    refine ⟨fun h => PositionUnit.notifyLoss_of_free h n, fun h => PositionUnit.notifyLoss_of_busy h n,
      fun l rest h => PositionUnit.finish_of_loss h, fun h => ?_⟩
    rw [PositionUnit.finish_of_no_loss h]
    exact ⟨fun hw => by simp [hw], fun w hw => by simp [hw]⟩
  · exact fun b x => ⟨fun h => Inbox.replace_of_free h x, fun h hw => Inbox.replace_of_none_waiting h hw x,
      fun w h hw => Inbox.replace_of_waiting h hw x⟩

end Sys2Proof.Machine
end

section
/-! The bucket position's sines and slew rate update, and the envelope unit's distance computation: its record, the target
gains, and the test of a waiting activation at its end. -/
namespace Sys2Proof.Machine

/-! ## Sines and link parts (R44 to R47) -/

/-- The last whole degree, where there is nothing to interpolate (R45). -/
theorem quadrant_right_angle (t : List Nat) : quadrant t 9000 = (t.getD 90 0 : Nat) := rfl

/-- Between two whole degrees of the table (R45). -/
theorem quadrant_of_lt (t : List Nat) {i f : Nat} (hi : i < 90) (hf : f < 100) :
    quadrant t (100 * i + f) = (t.getD i 0 : Nat) +
      (((t.getD (i + 1) 0 : Nat) - (t.getD i 0 : Nat) : Int) * f + 50) / 100 := by
  have hdiv : (100 * i + f) / 100 = i := by omega
  have hmod : (100 * i + f) % 100 = f := by omega
  simp only [quadrant, hdiv, hmod, if_neg (Nat.ne_of_lt hi)]
  rfl

theorem sine_emod (t : List Nat) (a : Int) : sine t (a % 36000) = sine t a := by
  simp only [sine, Int.emod_emod]

section
variable (t : List Nat) {a : Int} {r : Nat} (h : (r : Int) = a % 36000)
include h

/-- The sine by the reduced angle as a natural number (R44). -/
theorem sine_of_reduced : sine t a =
    if r < 9000 then quadrant t r
    else if r < 18000 then quadrant t (18000 - r)
    else if r < 27000 then -quadrant t (r - 18000)
    else -quadrant t (36000 - r) := by
  simp only [sine, ← h, Int.toNat_natCast]

theorem sine_first_quadrant (hr : r ≤ 8999) : sine t a = quadrant t r := by
  rw [sine_of_reduced t h, if_pos (by omega)]

theorem sine_second_quadrant (hl : 9000 ≤ r) (hr : r ≤ 17999) : sine t a = quadrant t (18000 - r) := by
  rw [sine_of_reduced t h, if_neg (by omega), if_pos (by omega)]

theorem sine_third_quadrant (hl : 18000 ≤ r) (hr : r ≤ 26999) : sine t a = -quadrant t (r - 18000) := by
  rw [sine_of_reduced t h, if_neg (by omega), if_neg (by omega), if_pos (by omega)]

theorem sine_fourth_quadrant (hl : 27000 ≤ r) : sine t a = -quadrant t (36000 - r) := by
  rw [sine_of_reduced t h, if_neg (by omega), if_neg (by omega), if_neg (by omega)]

end

/-- Rounding with halves upward: the link part is the greatest whole number at most half a unit above the quotient (R47). -/
theorem linkPart_bounds (l v : Int) :
    32768 * linkPart l v ≤ l * v + 16384 ∧ l * v + 16384 < 32768 * (linkPart l v + 1) := by
  unfold linkPart
  omega

/-- Settles O20: the cosine is the sine a quarter turn on, and each quadrant of the sine has its lemma. -/
theorem cosineIsShiftedSine : Obligations.CosineIsShiftedSine := by
  intro t
  refine ⟨fun a => ⟨rfl, (sine_emod t (a + 9000)).symm⟩, ?_, quadrant_right_angle t, ?_,
    fun a r h => ⟨sine_first_quadrant t h, sine_second_quadrant t h, sine_third_quadrant t h, sine_fourth_quadrant t h⟩,
    fun i f hi hf => quadrant_of_lt t hi hf, ?_, fun g b a k => ⟨rfl, rfl⟩⟩
  · exact sine_second_quadrant t (a := 0 + 9000) (r := 9000) (by decide) (by decide) (by decide)
  · exact sine_fourth_quadrant t (a := -18000 + 9000) (r := 27000) (by decide) (by decide)
  · rintro l v p rfl
    obtain ⟨hlow, hhigh⟩ := linkPart_bounds l v
    exact ⟨hlow, hhigh, fun h => by omega, fun h => by omega⟩

/-! ## Slew rate updates (R53, R55) -/

theorem AcceptNote.named_any_isAngle_eq_false {n : AcceptNote} (h : ∀ x ∈ n.values, isAngle x.role = false) :
    n.named.any isAngle = false := by
  simpa [AcceptNote.named] using h

theorem exec_slewRateUpdate {s : State} {n : AcceptNote} (hp : s.phase = .running)
    (hi : s.pos.inHand = some (.accepted n)) (ha : ∀ x ∈ n.values, isAngle x.role = false) :
    exec .slewRateUpdate s = .next (updateSlewRate s) := by
  change execSlewRateUpdate s = _
  simp only [execSlewRateUpdate, whileRunning_running _ hp, hi, AcceptNote.named_any_isAngle_eq_false ha, Bool.false_eq_true,
    if_false]

/-- The record with ω taken, handed to the envelope unit alone, and the work in hand ended (R53, R55). -/
theorem updateSlewRate_eq (s : State) {p : PositionRecord}
    (h : p = { s.pos.record with
      omega := if usable s.sig.records.slewRate then s.sig.records.slewRate.value else s.pos.record.omega }) :
    updateSlewRate s = { s with
      pos := { s.pos with record := p }.finish
      env := { s.env with inbox := s.env.inbox.replace ⟨p, []⟩ } } := by
  subst h
  rfl

/-- Settles O19: ω is taken from a usable SLEW_RATE and kept otherwise. -/
theorem slewRateUpdateChangesOmegaAlone : Obligations.SlewRateUpdateChangesOmegaAlone := by
  intro s n p hp hi ha husable hunusable
  rw [exec_slewRateUpdate hp hi ha]
  refine congrArg _ (updateSlewRate_eq s ?_)
  cases hu : usable s.sig.records.slewRate with
  | true => exact husable hu
  | false => exact hunusable hu

/-! ## What a computation finds for one entry (R59, R65, R68) -/

theorem approach_isSome (x : EnvelopeInputs) (p : PositionRecord) (hd : BankHeader) (e : EnvelopeEntry) :
    (approach x p hd e).isSome = applicable x p e := by
  unfold approach
  cases applicable x p e with
  | false => rfl
  | true => cases e.kind <;> rfl

theorem approaches_getElem? (x : EnvelopeInputs) (p : PositionRecord) (b : Bank) {i : Nat} (hi : i < 16) :
    (approaches x p b)[i]? = some (approach x p b.header (b.entryAt i)) := by
  simp [approaches, hi]

@[simp] theorem entryDistance_applicable (a : Option Approach) : (entryDistance a).applicable = a.isSome := by
  cases a <;> rfl

theorem clampDistance_range (d : Int) : -32768 ≤ clampDistance d ∧ clampDistance d ≤ 32767 := by
  unfold clampDistance clampInt
  omega

theorem entryDistance_range (a : Option Approach) :
    -32768 ≤ (entryDistance a).distance ∧ (entryDistance a).distance ≤ 32767 := by
  cases a with
  | none => exact ⟨by decide, by decide⟩
  | some a => exact clampDistance_range a.distance

/-- An entry that is not applicable has no distance and no breach (R59). -/
theorem entryDistance_of_not_applicable {a : Option Approach} (h : (entryDistance a).applicable = false) :
    (entryDistance a).distance = 0 ∧ (entryDistance a).breached = false := by
  cases a with
  | none => exact ⟨rfl, rfl⟩
  | some a => cases h

theorem distanceOn_entries_length (b : Bank) (x : EnvelopeInputs) (p : PositionRecord) (count : Nat) :
    (distanceOn b x p count).entries.length = 16 := by
  simp [distanceOn, approaches]

theorem distanceOn_entries_getElem? (b : Bank) (x : EnvelopeInputs) (p : PositionRecord) (count : Nat) {i : Nat}
    (hi : i < 16) :
    (distanceOn b x p count).entries[i]? = some (entryDistance (approach x p b.header (b.entryAt i))) := by
  simp [distanceOn, approaches_getElem? x p b hi]

/-! ## Target gains (R60, R65, R66) -/

/-- A gain that `GainOf` allows is the one that the entry's approach gives. -/
theorem GainOf.eq_entryGain {x : EnvelopeInputs} {p : PositionRecord} {b : Bank} {y : Dir} {i : Nat} {g : Option Nat}
    (h : GainOf x p b y i g) : g = (approach x p b.header (b.entryAt i)).bind fun a => entryGain b (b.entryAt i) a y := by
  obtain ⟨hsome, hnone⟩ := h
  cases ha : approach x p b.header (b.entryAt i) with
  | none => exact hnone fun a d h => by simp [ha] at h
  | some a =>
    simp only [Option.bind_some, entryGain]
    cases hf : a.restricts.find? fun r => decide (r.1 = y) with
    | none =>
      refine hnone fun a' d ha' hd => ?_
      cases ha.symm.trans ha'
      simpa using List.find?_eq_none.1 hf _ hd
    | some r =>
      obtain ⟨z, d⟩ := r
      have hz : z = y := by simpa using List.find?_some hf
      subst hz
      exact hsome a d ha (List.mem_of_find?_eq_some hf)

/-- `LeastGain` over the entries below `n`, for the best gain so far and its entry. -/
def LeastBelow (n : Nat) (gain : Nat → Option Nat) (best : Nat × Option Nat) : Prop :=
  best.1 ≤ 1024 ∧ (∀ i g, i < n → gain i = some g → best.1 ≤ g) ∧ (best.2 = none ↔ best.1 = 1024) ∧
    ∀ i, best.2 = some i → i < n ∧ gain i = some best.1 ∧ ∀ j g, j < i → gain j = some g → best.1 < g

theorem leastBelow_sixteen_iff (gain : Nat → Option Nat) (best : Nat × Option Nat) :
    LeastBelow 16 gain best ↔ LeastGain gain best.1 best.2 := Iff.rfl

section
variable {gain : Nat → Option Nat} {n : Nat} {best : Nat × Option Nat}

theorem leastBelow_zero (gain : Nat → Option Nat) : LeastBelow 0 gain (1024, none) :=
  ⟨Nat.le_refl _, fun _ _ hi => absurd hi (Nat.not_lt_zero _), by simp, nofun⟩

/-- An entry that gives nothing lower leaves the best gain as it is. -/
theorem LeastBelow.keep (h : LeastBelow n gain best) (hn : ∀ g, gain n = some g → best.1 ≤ g) :
    LeastBelow (n + 1) gain best := by
  obtain ⟨hle, hleast, hnone, hmost⟩ := h
  refine ⟨hle, fun i g hi hg => ?_, hnone, fun i hi => ?_⟩
  · rcases Nat.lt_succ_iff_lt_or_eq.1 hi with hlt | rfl
    · exact hleast i g hlt hg
    · exact hn g hg
  · obtain ⟨hlt, hfirst⟩ := hmost i hi
    exact ⟨Nat.lt_succ_of_lt hlt, hfirst⟩

/-- An entry that gives a lower gain becomes the most restrictive one. -/
theorem LeastBelow.lower {v : Nat} (h : LeastBelow n gain best) (hv : gain n = some v) (hlt : v < best.1) :
    LeastBelow (n + 1) gain (v, some n) := by
  obtain ⟨hle, hleast, -, -⟩ := h
  have hbelow : ∀ j g, j < n → gain j = some g → v < g := fun j g hj hg => Nat.lt_of_lt_of_le hlt (hleast j g hj hg)
  refine ⟨by omega, fun i g hi hg => ?_, ⟨nofun, fun h => by omega⟩, fun i hi => ?_⟩
  · rcases Nat.lt_succ_iff_lt_or_eq.1 hi with hlt | rfl
    · exact Nat.le_of_lt (hbelow i g hlt hg)
    · exact Nat.le_of_eq (Option.some.inj (hv.symm.trans hg))
  · cases hi
    exact ⟨Nat.lt_succ_self n, hv, hbelow⟩

theorem LeastBelow.lowerGain (h : LeastBelow n gain best) : LeastBelow (n + 1) gain (lowerGain best n (gain n)) := by
  cases hg : gain n with
  | none => exact h.keep fun g hg' => by simp [hg] at hg'
  | some v =>
    simp only [Machine.lowerGain]
    split
    · exact h.lower hg ‹_›
    · exact h.keep fun g hg' => by cases hg.symm.trans hg'; omega

end

/-- The fold over the first `n` entries finds the least gain. -/
theorem leastBelow_foldl_range (gain : Nat → Option Nat) (n : Nat) :
    LeastBelow n gain ((List.range n).foldl (fun best i => lowerGain best i (gain i)) (1024, none)) := by
  induction n with
  | zero => exact leastBelow_zero gain
  | succ n ih =>
    rw [List.range_succ, List.foldl_append]
    exact ih.lowerGain

/-- The target gain of an axis-direction is the least that the approaches give it (R66). -/
theorem leastGain_targetOf (b : Bank) (as : List (Option Approach)) (y : Dir) :
    LeastGain (fun i => (as.getD i none).bind fun a => entryGain b (b.entryAt i) a y)
      (targetOf b as y).1 (targetOf b as y).2 :=
  (leastBelow_sixteen_iff _ _).1 (leastBelow_foldl_range _ 16)

/-- `LeastGain` reads the gains of the 16 entries alone. -/
theorem LeastGain.congr {gain gain' : Nat → Option Nat} {target : Nat} {most : Option Nat}
    (h : LeastGain gain target most) (heq : ∀ i, i < 16 → gain' i = gain i) : LeastGain gain' target most := by
  obtain ⟨hle, hleast, hnone, hmost⟩ := h
  refine ⟨hle, fun i g hi hg => hleast i g hi (heq i hi ▸ hg), hnone, fun i hi => ?_⟩
  obtain ⟨hlt, hgain, hfirst⟩ := hmost i hi
  exact ⟨hlt, (heq i hlt).trans hgain, fun j g hj hg => hfirst j g hj (heq j (Nat.lt_trans hj hlt) ▸ hg)⟩

/-- The targets of a distance record, for any gains that the entries give by `GainOf` (R60, R65, R66). -/
theorem leastGain_distanceOn {b : Bank} {x : EnvelopeInputs} {p : PositionRecord} (count : Nat) {y : Dir}
    {gain : Nat → Option Nat} (h : ∀ i, i < 16 → GainOf x p b y i (gain i)) :
    LeastGain gain (dirGet (distanceOn b x p count).targets y) (dirGet (distanceOn b x p count).restrictive y) := by
  simp only [distanceOn, dirGet_dirTabulate]
  refine (leastGain_targetOf b (approaches x p b) y).congr fun i hi => ?_
  rw [(h i hi).eq_entryGain, List.getD_eq_getElem?_getD, approaches_getElem? x p b hi, Option.getD_some]

/-! ## The test of a waiting activation (R75, R76, R78) -/

theorem completes_iff (a : Activation) (s : State) :
    Completes a s ↔ a.breached = false ∧ activationHolds s = true :=
  and_congr_right fun _ => (activationHolds_iff s).symm

section
variable {a : Activation} {s : State}

theorem testActivation_of_none (h : s.env.activation = none) : testActivation s = s := by
  simp [testActivation, h]

theorem testActivation_of_completes (h : s.env.activation = some a) (hc : Completes a s) :
    testActivation s = swapBanks s := by
  obtain ⟨hb, hh⟩ := (completes_iff a s).1 hc
  simp [testActivation, h, hb, hh]

theorem testActivation_of_not_completes (h : s.env.activation = some a) (hc : ¬Completes a s) : testActivation s = s := by
  rw [completes_iff] at hc
  simp [testActivation, h, hc]

theorem banksSwapped_swapBanks (h : s.env.activation = some a) : BanksSwapped a s (swapBanks s) := by
  refine ⟨_, rfl, ?_⟩
  simp only [swapBanks, State.endActivation, h]
  rfl

theorem BanksSwapped.inbox_eq {t : State} (h : BanksSwapped a s t) :
    t.env.inbox = { s.env.inbox with waiting := none } := by
  obtain ⟨d, -, rfl⟩ := h
  rfl

end

/-! ## Distance computations (R55, R67) -/

/-- The state at the end of a distance computation, before the test of a waiting activation: the hand-off `x` is no longer in
hand, and one that waits still waits (R67, R75). -/
def State.computedFor (x : EnvelopeHandOff) (s : State) : State :=
  let t := (computeDistance x.record s).forwardToLimiter x.forLimiter
  { t with env := { t.env with testAsked := false, inbox := ⟨none, s.env.inbox.waiting⟩ } }

/-- The envelope unit takes up the hand-off that waits (R67). -/
def State.finishEnvelope (s : State) : State := { s with env := { s.env with inbox := s.env.inbox.finish } }

theorem handleEnvelope_eq (x : EnvelopeHandOff) (s : State) :
    handleEnvelope x s = (testActivation (s.computedFor x)).finishEnvelope := rfl

theorem exec_distanceComputation {s : State} {x : EnvelopeHandOff} (hp : s.phase = .running)
    (hi : s.env.inbox.inHand = some x) :
    exec .distanceComputation s = .next (testActivation (s.computedFor x)).finishEnvelope := by
  change execDistanceComputation s = _
  simp only [execDistanceComputation, whileRunning_running _ hp, hi, handleEnvelope_eq]

/-- Settles O21: the state `u` is the one at the end of the computation; the test at its end leaves it or swaps the banks, and
the record is read entry by entry and direction by direction. -/
theorem distanceComputationReplacesTheRecord : Obligations.DistanceComputationReplacesTheRecord := by
  intro s u x d w hp hi hd hw hu
  have hend : u = (s.computedFor x).finishEnvelope := by subst hd hw hu; rfl
  have hbefore : { u with env := { u.env with inbox := ⟨none, s.env.inbox.waiting⟩ } } = s.computedFor x := by
    subst hend; rfl
  have hactivation : (s.computedFor x).env.activation = w := by subst hd hw; rfl
  have hcompletes (a : Activation) : Completes a u ↔ Completes a (s.computedFor x) := by subst hend; rfl
  rw [exec_distanceComputation hp hi, hbefore]
  refine ⟨fun hn => ?_, fun a ha => ⟨fun hc => ?_, fun hc => ?_⟩, ?_, ?_, fun i hlt y hy => ?_, fun y gain hg => ?_⟩
  · rw [testActivation_of_none (by rw [hactivation, hw, hn]; rfl), hend]
  · rw [testActivation_of_not_completes (hactivation.trans ha) (mt (hcompletes a).2 hc), hend]
  · rw [testActivation_of_completes (hactivation.trans ha) ((hcompletes a).1 hc)]
    have hswap := banksSwapped_swapBanks (hactivation.trans ha)
    refine ⟨_, ?_, hswap⟩
    rw [State.finishEnvelope, hswap.inbox_eq]
    rfl
  · rw [hd, distanceOn_entries_length]
  · rw [hd]; rfl
  · rw [hd, distanceOn_entries_getElem? _ _ _ _ hlt] at hy
    cases hy
    obtain ⟨hlow, hhigh⟩ :=
      entryDistance_range (approach (envelopeInputs s) x.record s.cfg.activeBank.header (s.cfg.activeBank.entryAt i))
    refine ⟨?_, hlow, hhigh, entryDistance_of_not_applicable, fun a ha => ?_⟩
    · rw [entryDistance_applicable, approach_isSome]
    · rw [ha]
      exact ⟨rfl, rfl⟩
  · rw [hd]
    exact leastGain_distanceOn _ hg

end Sys2Proof.Machine
end

section
/-! Command shaping: the bytes of a rewritten command frame, the shaped values, the held gains at a limiter transition and at
a command frame, and the console's grade hold. -/
namespace Sys2Proof.Machine

/-! ## Bytes and check bytes (section 0.6, R195) -/

theorem byteAt_congr {d w : List Byte} {i : Nat} (h : w[i]? = d[i]?) : byteAt w i = byteAt d i := by
  simp only [byteAt, List.getD_eq_getElem?_getD, h]

theorem byteAt_set_self {d : List Byte} {i : Nat} (h : i < d.length) (x : Byte) : byteAt (d.set i x) i = x := by
  simp [byteAt, List.getD_eq_getElem?_getD, h]

theorem byteAt_set_ne {i j : Nat} (h : j ≠ i) (d : List Byte) (x : Byte) : byteAt (d.set i x) j = byteAt d j :=
  byteAt_congr (List.getElem?_set_ne h.symm)

theorem halfAt_congr {d w : List Byte} {i : Nat} (h : w[i]? = d[i]?) (h' : w[i + 1]? = d[i + 1]?) :
    halfAt w i = halfAt d i := by
  simp only [halfAt, byteAt_congr h, byteAt_congr h']

theorem half_hiByte_loByte (w : Half) : half (hiByte w) (loByte w) = w := by
  apply BitVec.eq_of_toNat_eq
  rw [half_toNat]
  simp only [hiByte, loByte, BitVec.extractLsb'_toNat, Nat.shiftRight_eq_div_pow]
  omega

theorem byteSum_eq_sum (d : List Byte) : byteSum d = d.sum := List.sum_eq_foldl.symm

theorem byteSum_set {d : List Byte} {i : Nat} (h : i < d.length) (x : Byte) :
    byteSum (d.set i x) = byteSum (d.set i 0) + x := by
  simp only [byteSum_eq_sum]
  induction d generalizing i with
  | nil => cases h
  | cons b d ih =>
    cases i with
    | zero =>
      rw [List.set_cons_zero, List.set_cons_zero, List.sum_cons, List.sum_cons, BitVec.add_comm x]
      exact congrArg (· + x) (BitVec.zero_add _).symm
    | succ i =>
      rw [List.set_cons_succ, List.set_cons_succ, List.sum_cons, List.sum_cons, ih (Nat.lt_of_succ_lt_succ h),
        BitVec.add_assoc]

/-- A check byte closes the eight-bit sum (section 0.6, R85). -/
theorem byteSum_closeCheck {d : List Byte} {i : Nat} (h : i < d.length) : byteSum (closeCheck d i) = 0 := by
  rw [closeCheck, byteSum_set h]
  bv_omega

theorem closeCheck_getElem?_ne {i j : Nat} (h : j ≠ i) (d : List Byte) : (closeCheck d i)[j]? = d[j]? :=
  List.getElem?_set_ne h.symm

/-! ## A value written at an offset (R85) -/

@[simp] theorem putHalf_length (d : List Byte) (k : Nat) (v : Int) : (putHalf d k v).length = d.length := by
  simp [putHalf]

theorem putHalf_getElem?_ne {j k : Nat} (h : j ≠ k) (h' : j ≠ k + 1) (d : List Byte) (v : Int) :
    (putHalf d k v)[j]? = d[j]? := by
  rw [putHalf, List.getElem?_set_ne h'.symm, List.getElem?_set_ne h.symm]

theorem halfAt_putHalf {d : List Byte} {k : Nat} (h : k + 1 < d.length) (v : Int) :
    halfAt (putHalf d k v) k = BitVec.ofInt 16 v := by
  have hhi : byteAt (putHalf d k v) k = hiByte (halfOfInt v) := by
    rw [putHalf, byteAt_set_ne (by omega), byteAt_set_self (by omega)]
  have hlo : byteAt (putHalf d k v) (k + 1) = loByte (halfOfInt v) :=
    byteAt_set_self (by simpa using h) _
  rw [halfAt, hhi, hlo, half_hiByte_loByte]
  rfl

/-! ## The values of the present axes written back (R85) -/

section
variable {o : PerAxis (Option Nat)} {v : PerAxis Int}

/-- The value of an axis written at its offset; an absent axis writes nothing. -/
def putValue (o : PerAxis (Option Nat)) (v : PerAxis Int) (d : List Byte) (x : Axis) : List Byte :=
  (o.get x).elim d fun k => putHalf d k (v.get x)

theorem putValue_of_present {x : Axis} {k : Nat} (h : o.get x = some k) (d : List Byte) :
    putValue o v d x = putHalf d k (v.get x) := by
  simp [putValue, h]

theorem putValue_of_absent {x : Axis} (h : o.get x = none) (d : List Byte) : putValue o v d x = d := by
  simp [putValue, h]

theorem putAxes_eq_foldl (o : PerAxis (Option Nat)) (v : PerAxis Int) (d : List Byte) :
    putAxes o (PerAxis.tabulate fun x => (o.get x).map fun _ => v.get x) d = axes.foldl (putValue o v) d := by
  unfold putAxes
  congr 1
  funext d x
  rw [PerAxis.get_tabulate]
  cases h : o.get x with
  | none => rw [putValue_of_absent h]
  | some k => rw [putValue_of_present h]; rfl

theorem putValue_length (d : List Byte) (x : Axis) : (putValue o v d x).length = d.length := by
  cases h : o.get x with
  | none => rw [putValue_of_absent h]
  | some k => rw [putValue_of_present h, putHalf_length]

theorem foldl_putValue_length (xs : List Axis) (d : List Byte) : (xs.foldl (putValue o v) d).length = d.length := by
  induction xs generalizing d with
  | nil => rfl
  | cons x xs ih => rw [List.foldl_cons, ih, putValue_length]

theorem putValue_getElem?_untouched {x : Axis} {j : Nat} (h : ∀ k, o.get x = some k → j ≠ k ∧ j ≠ k + 1) (d : List Byte) :
    (putValue o v d x)[j]? = d[j]? := by
  cases ho : o.get x with
  | none => rw [putValue_of_absent ho]
  | some k =>
    obtain ⟨hk, hk'⟩ := h k ho
    rw [putValue_of_present ho, putHalf_getElem?_ne hk hk']

theorem foldl_putValue_getElem?_untouched {j : Nat} (h : ∀ x k, o.get x = some k → j ≠ k ∧ j ≠ k + 1) (xs : List Axis)
    (d : List Byte) : (xs.foldl (putValue o v) d)[j]? = d[j]? := by
  induction xs generalizing d with
  | nil => rfl
  | cons x xs ih => rw [List.foldl_cons, ih, putValue_getElem?_untouched (h x)]

theorem halfAt_putValue_apart {y : Axis} {k : Nat} (h : ∀ k', o.get y = some k' → k' + 1 < k ∨ k + 1 < k') (d : List Byte) :
    halfAt (putValue o v d y) k = halfAt d k :=
  halfAt_congr (putValue_getElem?_untouched (fun k' hk => by have := h k' hk; omega) d)
    (putValue_getElem?_untouched (fun k' hk => by have := h k' hk; omega) d)

/-- The value of an axis stands at its offset when it stood there before or the axis is among those written, since no other
axis takes in its bytes (R8). -/
theorem halfAt_foldl_putValue {x : Axis} {k : Nat} {d : List Byte} (ho : o.get x = some k) (hk : k + 1 < d.length)
    (hapart : ∀ y k', y ≠ x → o.get y = some k' → k' + 1 < k ∨ k + 1 < k') (xs : List Axis)
    (hx : halfAt d k = BitVec.ofInt 16 (v.get x) ∨ x ∈ xs) :
    halfAt (xs.foldl (putValue o v) d) k = BitVec.ofInt 16 (v.get x) := by
  induction xs generalizing d with
  | nil => exact hx.resolve_right List.not_mem_nil
  | cons y xs ih =>
    rw [List.foldl_cons]
    refine ih (by rwa [putValue_length]) ?_
    by_cases hy : y = x
    · subst hy
      rw [putValue_of_present ho]
      exact .inl (halfAt_putHalf hk _)
    · rw [halfAt_putValue_apart (fun k' => hapart y k' hy)]
      exact hx.imp_right fun hmem => List.mem_of_ne_of_mem (Ne.symm hy) hmem

end

/-! ## The rewritten frame (R80, R85) -/

section
variable {o : PerAxis (Option Nat)} {c : Option Nat} {shaped : PerAxis (Option Int)} {d : List Byte}

theorem anyAxis_iff (o : PerAxis (Option Nat)) : anyAxis o = true ↔ ∃ x, (o.get x).isSome = true := by
  simp only [anyAxis, List.any_eq_true, mem_axes, true_and]

theorem rewritten_of_no_axis (h : ∀ x, o.get x = none) : rewritten o c shaped d = d := by
  have hany : ¬anyAxis o = true := by
    rw [anyAxis_iff]
    rintro ⟨x, hx⟩
    rw [h x] at hx
    cases hx
  unfold rewritten
  rw [if_neg hany]

theorem rewritten_of_no_check (h : ∃ x, (o.get x).isSome = true) : rewritten o none shaped d = putAxes o shaped d := by
  rw [rewritten, if_pos ((anyAxis_iff o).2 h)]

theorem rewritten_of_check (h : ∃ x, (o.get x).isSome = true) (i : Nat) :
    rewritten o (some i) shaped d = closeCheck (putAxes o shaped d) i := by
  rw [rewritten, if_pos ((anyAxis_iff o).2 h)]

/-- The check byte alone sets the rewritten frame apart from the one with its values written back. -/
theorem rewritten_getElem? (h : ∃ x, (o.get x).isSome = true) {j : Nat} (hj : c ≠ some j) :
    (rewritten o c shaped d)[j]? = (putAxes o shaped d)[j]? := by
  cases c with
  | none => rw [rewritten_of_no_check h]
  | some i => rw [rewritten_of_check h, closeCheck_getElem?_ne (by rintro rfl; exact hj rfl)]

theorem rewritten_length_eq_putAxes (h : ∃ x, (o.get x).isSome = true) :
    (rewritten o c shaped d).length = (putAxes o shaped d).length := by
  cases c with
  | none => rw [rewritten_of_no_check h]
  | some i => rw [rewritten_of_check h, closeCheck_length]

theorem exists_present_or_all_absent (o : PerAxis (Option Nat)) :
    (∃ x, (o.get x).isSome = true) ∨ ∀ x, o.get x = none := by
  by_cases h : ∃ x, (o.get x).isSome = true
  · exact .inl h
  · exact .inr fun x => Option.not_isSome_iff_eq_none.1 fun hx => h ⟨x, hx⟩

end

/-! ## Shaped values (R84) -/

theorem shapedValue_of_nonneg (g : Sided Nat) {v : Int} (h : 0 ≤ v) : shapedValue g v = v * g.pos / 1024 := by
  obtain ⟨n, rfl⟩ := Int.eq_ofNat_of_zero_le h
  unfold shapedValue
  split
  · next hz => simp [hz]
  · rw [if_pos (by omega)]
    simp

theorem shapedValue_of_nonpos (g : Sided Nat) {v : Int} (h : v ≤ 0) : shapedValue g v = -(-v * g.neg / 1024) := by
  obtain ⟨n, hn⟩ := Int.eq_ofNat_of_zero_le (Int.neg_nonneg_of_nonpos h)
  obtain rfl : v = -n := by omega
  unfold shapedValue
  split
  · next hz => simp [hz]
  · rw [if_neg (by omega)]
    simp

/-- A magnitude scaled by a gain of at most 1024 over 1024 does not grow. -/
theorem scaled_bounds {m : Int} {g : Nat} (hm : 0 ≤ m) (hg : g ≤ 1024) : 0 ≤ m * g / 1024 ∧ m * g / 1024 ≤ m := by
  have hlow : 0 ≤ m * g := Int.mul_nonneg hm (Int.natCast_nonneg g)
  have hhigh : m * g ≤ m * 1024 := Int.mul_le_mul_of_nonneg_left (by omega) hm
  omega

theorem shapedValue_unity {g : Sided Nat} (hp : g.pos = 1024) (hn : g.neg = 1024) (v : Int) : shapedValue g v = v := by
  rcases Int.le_total 0 v with h | h
  · rw [shapedValue_of_nonneg g h, hp]
    omega
  · rw [shapedValue_of_nonpos g h, hn]
    omega

/-- Settles O28: a shaped value by its sign, the sum that a check byte closes, and the bytes of a rewritten frame. -/
theorem shapingNeverAmplifiesAndChecksClose : Obligations.ShapingNeverAmplifiesAndChecksClose := by
  refine ⟨fun g v hp hn => ⟨fun h => ?_, fun h => ?_, fun hp hn => shapedValue_unity hp hn v⟩,
    fun d i hi => ⟨byteSum_closeCheck hi, fun j hj => closeCheck_getElem?_ne hj d⟩, ?_⟩
  · obtain ⟨hlow, hhigh⟩ := scaled_bounds h hp
    rw [shapedValue_of_nonneg g h]
    exact ⟨hlow, hhigh, rfl⟩
  · obtain ⟨hlow, hhigh⟩ := scaled_bounds (Int.neg_nonneg_of_nonpos h) hn
    rw [shapedValue_of_nonpos g h]
    exact ⟨by omega, by omega, rfl⟩
  · rintro o c v d w rfl
    rcases exists_present_or_all_absent o with hany | hnone
    · refine ⟨?_, fun j hj hc => ?_, fun x k ho hk hc hc' hapart => ?_, fun i hi hlt _ => ?_,
        fun h => rewritten_of_no_axis h⟩
      · rw [rewritten_length_eq_putAxes hany, putAxes_eq_foldl, foldl_putValue_length]
      · rw [rewritten_getElem? hany hc, putAxes_eq_foldl, foldl_putValue_getElem?_untouched hj]
      · rw [halfAt_congr (rewritten_getElem? hany hc) (rewritten_getElem? hany hc'), putAxes_eq_foldl,
          halfAt_foldl_putValue ho hk hapart axes (.inr (mem_axes x))]
      · subst hi
        rw [rewritten_of_check hany, putAxes_eq_foldl, byteSum_closeCheck (by rwa [foldl_putValue_length])]
    · rw [rewritten_of_no_axis hnone]
      exact ⟨rfl, fun _ _ _ => rfl, fun x k ho => by simp [hnone x] at ho, fun _ _ _ ⟨x, hx⟩ => by simp [hnone x] at hx,
        fun _ => rfl⟩

/-! ## Limiter transitions and the console (R89, R92) -/

theorem exec_heldGainLowering {s : State} (hp : s.phase = .running) (k : GainTransition) :
    exec (.heldGainLowering k) s = .next (s.lowerGains k) := by
  change execHeldGainLowering k s = _
  rw [execHeldGainLowering, whileRunning_running _ hp]

theorem exec_gradeHoldConsole {s : State} {d : List Byte} (hp : s.phase = .running)
    (hi : s.shp.inbox.inHand = some (.console d)) :
    exec .gradeHoldConsole s = .next (gradeConsole d s.finishShaping) := by
  change execGradeHoldConsole s = _
  simp only [execGradeHoldConsole, whileRunning_running _ hp, hi]

/-- The in-band flag after a console frame (R92). -/
theorem gradeConsole_eq (d : List Byte) (s : State) :
    gradeConsole d s = { s with shp := { s.shp with
      gradeHold := consoleGradeHold d
      inBand := if s.shp.gradeHold = true ∧ consoleGradeHold d = false then false else s.shp.inBand } } := by
  simp [gradeConsole]

/-- Settles O29: the held gains by the kind of transition, and the flags by the console's bit. -/
theorem transitionsLowerGainsAndConsoleSetsGradeHold : Obligations.TransitionsLowerGainsAndConsoleSetsGradeHold := by
  refine ⟨fun s k hp => ⟨_, exec_heldGainLowering hp k, ?_, ?_⟩, ?_⟩
  · rintro (rfl | rfl) d <;> exact dirGet_loweredGains _ _ _ d
  · rintro (rfl | rfl | rfl) d <;> exact dirGet_loweredGains _ _ _ d
  · rintro s d on hp hi rfl
    rw [exec_gradeHoldConsole hp hi, gradeConsole_eq]
    rfl

/-! ## Held gains at a command frame (R82, R83) -/

theorem eq_gainTarget {x : LimiterState} {creep envelope target : Nat} (hn : x = .normal → target = envelope)
    (hr : x = .startup ∨ x = .restricted → target = min creep envelope) (hh : x = .hold → target = 0) :
    target = gainTarget x creep envelope := by
  cases x with
  | startup => exact hr (.inl rfl)
  | normal => exact hn rfl
  | restricted => exact hr (.inr rfl)
  | hold => exact hh rfl

section
variable {present : Axis → Bool} {d : Dir}

theorem dirGet_updatedGains_of_present (s : State) (h : present d.axis = true) :
    dirGet (updatedGains s present) d =
      min (gainTarget s.lim.state s.cfg.activeBank.header.creep (dirGet s.env.distance.targets d))
        (dirGet s.shp.heldGains d + s.cfg.activeBank.header.rise) := by
  rw [updatedGains, dirGet_dirTabulate, if_pos h]
  rfl

theorem dirGet_updatedGains_of_absent (s : State) (h : present d.axis = false) :
    dirGet (updatedGains s present) d = dirGet s.shp.heldGains d := by
  rw [updatedGains, dirGet_dirTabulate, if_neg (by simp [h])]

end

/-! ## Raw and shaped values at a command frame (R81, R84, R87) -/

section
variable {o : PerAxis (Option Nat)} {data : List Byte} {x : Axis}

theorem rawValues_get_of_present {k : Nat} (h : o.get x = some k) :
    (rawValues o data).get x = some (max (-1000) (min 1000 (halfAt data k).toInt)) := by
  rw [rawValues, PerAxis.get_tabulate, h]
  rfl

theorem rawValues_get_of_absent (h : o.get x = none) : (rawValues o data).get x = none := by
  rw [rawValues, PerAxis.get_tabulate, h]
  rfl

theorem shapedValues_get (gains : PerDir Nat) (raw : PerAxis (Option Int)) (x : Axis) :
    (shapedValues gains raw).get x = (raw.get x).map (shapedValue (gains.get x)) := by
  rw [shapedValues, PerAxis.get_tabulate]

theorem shapedValues_isSome (gains : PerDir Nat) (o : PerAxis (Option Nat)) (data : List Byte) (x : Axis) :
    ((shapedValues gains (rawValues o data)).get x).isSome = (o.get x).isSome := by
  simp [shapedValues_get, rawValues]

theorem latest_get_of_some {old : PerAxis Int} {new : PerAxis (Option Int)} {v : Int} (h : new.get x = some v) :
    (latest old new).get x = v := by
  rw [latest, PerAxis.get_tabulate, h]
  rfl

theorem latest_get_of_none {old : PerAxis Int} {new : PerAxis (Option Int)} (h : new.get x = none) :
    (latest old new).get x = old.get x := by
  rw [latest, PerAxis.get_tabulate, h]
  rfl

/-- The values that a frame carries are the last ones after it (R85, R87). -/
theorem tabulate_latest {new : PerAxis (Option Int)}
    (h : ∀ x, (new.get x).isSome = (o.get x).isSome) (old : PerAxis Int) :
    (PerAxis.tabulate fun x => (o.get x).map fun _ => (latest old new).get x) = new := by
  have hget (x : Axis) : ((o.get x).map fun _ => (latest old new).get x) = new.get x := by
    specialize h x
    cases hn : new.get x with
    | none => simp_all
    | some v =>
      obtain ⟨k, hk⟩ := Option.isSome_iff_exists.1 (h.symm.trans (by rw [hn]; rfl))
      rw [hk, latest_get_of_some hn]
      rfl
  simp only [hget]
  rfl

/-- How many axes are clamped, by any test that holds of the present ones out of range alone (R81). -/
theorem clampedAxes_eq_countP {p : Axis → Bool} (habsent : ∀ x, o.get x = none → p x = false)
    (hpresent : ∀ x k, o.get x = some k → p x = decide ((halfAt data k).toInt < -1000 ∨ 1000 < (halfAt data k).toInt)) :
    clampedAxes o data = axes.countP p := by
  refine List.countP_congr fun x _ => ?_
  cases ho : o.get x with
  | none => simp [habsent x ho]
  | some k => rw [hpresent x k ho, decide_eq_true_iff, decide_eq_true_iff, clampAxis, clampInt_ne_iff (by decide)]; rfl

end

/-! ## Hard stops (R90, R91) -/

/-- An axis-direction is pressed by a raw value of its sign beyond the deadband (R90). -/
theorem pressing_iff (deadband : Nat) (raw : Int) (d : Dir) : pressing deadband raw d = true ↔
    (deadband < raw.natAbs ∧ (d.negative = false → 0 < raw) ∧ (d.negative = true → raw < 0)) := by
  obtain ⟨x, b⟩ := d
  cases b <;> simp [pressing, neutral, and_comm]

section
variable {deadband : Nat} {gains : PerDir Nat} {raw : PerAxis (Option Int)} {old : PerDir Bool} {d : Dir}

theorem dirGet_updatedStops_of_some {v : Int} (h : raw.get d.axis = some v) :
    dirGet (updatedStops deadband gains raw old) d = (pressing deadband v d && decide (dirGet gains d = 0)) := by
  rw [updatedStops, dirGet_dirTabulate, h]

theorem dirGet_updatedStops_of_none (h : raw.get d.axis = none) :
    dirGet (updatedStops deadband gains raw old) d = dirGet old d := by
  rw [updatedStops, dirGet_dirTabulate, h]

end

/-! ## Command frames (R80 to R88, R90) -/

theorem exec_commandFrame {s : State} {p : Port} {f : Frame} {o : PerAxis (Option Nat)} {c : Option Nat}
    (hp : s.phase = .running) (hi : s.shp.inbox.inHand = some (.command p f o c)) :
    exec .commandFrame s = .next (shapeFrame p f o c s.finishShaping) := by
  change execCommandFrame s = _
  simp only [execCommandFrame, whileRunning_running _ hp, hi]

/-- The frame forwarded on the other port carries the last shaped values as they stand after it (R85, R86, R87). -/
theorem shapeFrame_ports (p : Port) (f : Frame) (o : PerAxis (Option Nat)) (c : Option Nat) (s : State) :
    (shapeFrame p f o c s).ports = s.ports.set (otherPort p) (offerTo (s.ports.get (otherPort p)) .forwarded
      ⟨f.ident, rewritten o c
        (PerAxis.tabulate fun x => (o.get x).map fun _ => (shapeFrame p f o c s).shp.lastShaped.get x) f.data⟩) := by
  have hshaped : (PerAxis.tabulate fun x => (o.get x).map fun _ => (shapeFrame p f o c s).shp.lastShaped.get x) =
      shapedValues (updatedGains s fun x => (o.get x).isSome) (rawValues o f.data) :=
    tabulate_latest (shapedValues_isSome _ o f.data) s.shp.lastShaped
  rw [hshaped]
  rfl

/-- Settles O27: axis by axis, a present axis has its rule and an absent one keeps what it had. -/
theorem commandFrameIsShapedAndForwarded : Obligations.CommandFrameIsShapedAndForwarded := by
  refine ⟨fun s p f o c hp hi => ⟨_, exec_commandFrame hp hi, rfl, rfl, fun d ho => ⟨?_, ?_⟩,
    fun d k target ho hn hr hh => ⟨?_, ?_⟩, fun x ho => ⟨?_, ?_⟩, fun x k ho => ⟨?_, ?_⟩, ?_, rfl, rfl, rfl, ?_⟩,
    pressing_iff⟩
  · exact dirGet_updatedGains_of_absent s.finishShaping (by rw [ho]; rfl)
  · exact dirGet_updatedStops_of_none (rawValues_get_of_absent ho)
  · rw [eq_gainTarget hn hr hh]
    exact dirGet_updatedGains_of_present s.finishShaping (by rw [ho]; rfl)
  · have hraw := rawValues_get_of_present (data := f.data) ho
    exact (dirGet_updatedStops_of_some hraw).trans (by rw [← latest_get_of_some (old := s.shp.lastRaw) hraw]; rfl)
  · exact latest_get_of_none (rawValues_get_of_absent ho)
  · exact latest_get_of_none (by rw [shapedValues_get, rawValues_get_of_absent ho]; rfl)
  · exact latest_get_of_some (rawValues_get_of_present ho)
  · have hraw := rawValues_get_of_present (data := f.data) ho
    refine (latest_get_of_some (by rw [shapedValues_get, hraw]; rfl)).trans ?_
    rw [← latest_get_of_some (old := s.shp.lastRaw) hraw]
    rfl
  · refine congrArg (fun n => min (s.shp.clampCount + n) 65535) (clampedAxes_eq_countP (fun x ho => ?_) fun x k ho => ?_) <;>
      simp only [ho]
  · exact shapeFrame_ports p f o c s.finishShaping

end Sys2Proof.Machine
end

section
/-! The economy unit: when all axes are neutral, the judgement of the auto-idle timer, the target with its request, and a
command frame notification. -/
namespace Sys2Proof.Machine

/-! ## Neutral axes and the auto-idle timer (section 0.6, R131) -/

theorem allNeutral_iff (deadband : Nat) (raw : PerAxis Int) :
    allNeutral deadband raw = true ↔ ∀ x, (raw.get x).natAbs ≤ deadband := by
  simp [allNeutral, PerAxis.toList, mem_axes, neutral]

theorem allNeutral_eq_false {deadband : Nat} {raw : PerAxis Int} (h : ∃ x, deadband < (raw.get x).natAbs) :
    allNeutral deadband raw = false := by
  obtain ⟨x, hx⟩ := h
  exact Bool.eq_false_iff.2 fun hn => Nat.not_le.2 hx ((allNeutral_iff deadband raw).1 hn x)

theorem slewStill_iff (threshold : Nat) (o : Option Int) :
    slewStill threshold o = true ↔ ∃ v, o = some v ∧ v.natAbs < threshold := by
  cases o <;> simp [slewStill]

theorem autoIdleConditions_iff (raw : PerAxis Int) (s : State) :
    autoIdleConditions raw s = true ↔ IdleConditions s raw := by
  simp only [autoIdleConditions, IdleConditions, Bool.and_eq_true, allNeutral_iff, slewStill_iff, and_assoc]

section
variable {s : State} {raw : PerAxis Int}

/-- The judgement in RUN sets the timer that `JudgedTimer` allows (R131). -/
theorem judgeAutoIdle_of_run {timer : Option Time} (hrun : s.eco.state = .run) (h : JudgedTimer s raw timer) :
    judgeAutoIdle raw s = { s with eco := { s.eco with timer := timer } } := by
  obtain ⟨hidle, hbusy⟩ := h
  by_cases hc : IdleConditions s raw
  · rw [hidle hc, judgeAutoIdle, if_pos ⟨hrun, (autoIdleConditions_iff raw s).2 hc⟩]
    cases s.eco.timer <;> rfl
  · rw [hbusy hc, judgeAutoIdle, if_neg fun h => hc ((autoIdleConditions_iff raw s).1 h.2)]

/-- A lever out of neutral stops the timer (R131). -/
theorem judgeAutoIdle_of_not_neutral (h : allNeutral s.cfg.identity.deadband raw = false) :
    judgeAutoIdle raw s = { s with eco := { s.eco with timer := none } } := by
  rw [judgeAutoIdle, if_neg (by simp [autoIdleConditions, h])]

end

/-! ## Requests (R140) -/

/-- The four bytes of an engine request, filled to 8 and closed by the check byte 7 (section 12.2). -/
theorem engineFrame_data (s : State) (tag : Nat) (g : Target) : (engineFrame s tag g).data =
    closeCheck [byteOf tag, hiByte (halfOf g.rpm), loByte (halfOf g.rpm), byteOf (reasonCode g.reason), 0, 0, 0, 0] 7 := rfl

theorem isEngineFrame_engineFrame (s : State) (tag : Nat) (g : Target) : IsEngineFrame s tag g (engineFrame s tag g) := by
  have hbyte {j : Nat} (hj : j < 7) := byteAt_congr (closeCheck_getElem?_ne (Nat.ne_of_lt hj)
    [byteOf tag, hiByte (halfOf g.rpm), loByte (halfOf g.rpm), byteOf (reasonCode g.reason), 0, 0, 0, 0])
  unfold IsEngineFrame
  rw [engineFrame_data]
  refine ⟨rfl, closeCheck_length _ 7, hbyte (by decide), ?_, hbyte (by decide), fun i hl hr => ?_,
    byteSum_closeCheck (Nat.lt_succ_self 7)⟩
  · rw [halfAt, hbyte (by decide), hbyte (by decide)]
    exact half_hiByte_loByte _
  · rw [hbyte (by omega)]
    obtain rfl | rfl | rfl : i = 4 ∨ i = 5 ∨ i = 6 := by omega
    all_goals rfl

theorem queueHasRoom_iff (s : State) :
    queueHasRoom s = true ↔ s.eng.entries.length < s.cfg.economy.queueDepth := decide_eq_true_iff

theorem requested_requestSpeed (g : Target) (s : State) : Requested g s (requestSpeed g s) := by
  refine ⟨fun h => ⟨engineFrame s (allocateTag s.eng) g, isEngineFrame_engineFrame s _ g, ?_⟩, fun h => ?_⟩
  · rw [requestSpeed, if_pos ((queueHasRoom_iff s).2 h)]
    rfl
  · rw [requestSpeed, if_neg (mt (queueHasRoom_iff s).1 (Nat.not_lt.2 h))]

@[simp] theorem requestSpeed_cfg (g : Target) (s : State) : (requestSpeed g s).cfg = s.cfg := by
  unfold requestSpeed
  split <;> rfl

/-! ## The target settled (R129, R130) -/

theorem wantsRequest_iff (e : EconomySettings) (last : Option Target) (engaged : Bool) (g : Target) :
    wantsRequest e last engaged g = true ↔ (last = none ∨ ∃ l, last = some l ∧ (g.reason ≠ l.reason ∨ engaged = true ∨
      (e.hysteresis ≤ ((g.rpm : Int) - l.rpm).natAbs ∧ 1 ≤ ((g.rpm : Int) - l.rpm).natAbs))) := by
  cases last with
  | none => simp [wantsRequest]
  | some l => simp [wantsRequest, movedEnough, or_assoc]

theorem settled_settleTarget (engaged : Bool) (s : State) : Settled engaged s (settleTarget engaged s) := by
  rintro g v rfl rfl
  rw [← wantsRequest_iff]
  refine ⟨fun h => ?_, fun h => ?_⟩
  · rw [settleTarget, if_pos h]
    exact requested_requestSpeed _ _
  · rw [settleTarget, if_neg h]
    rfl

@[simp] theorem settleTarget_cfg (engaged : Bool) (s : State) : (settleTarget engaged s).cfg = s.cfg := by
  simp only [settleTarget]
  split
  · exact requestSpeed_cfg _ _
  · rfl

/-! ## Command frame notifications (R124, R129, R133) -/

theorem exec_economyCommandNotify {s : State} {n : CommandNote} {rest : List CommandNote} (hp : s.phase = .running)
    (hc : s.eco.commands = n :: rest) :
    exec .economyCommandNotify s = .next (handleCommandNote n { s with eco := { s.eco with commands := rest } }) := by
  change execEconomyCommandNotify s = _
  simp only [execEconomyCommandNotify, whileRunning_running _ hp, hc]

/-- The state once the notification is taken and the demand set (R124). -/
def State.afterNote (n : CommandNote) (rest : List CommandNote) (s : State) : State :=
  { s with eco := { s.eco with commands := rest, demand := demandOf s.cfg.economy.weights n.shaped } }

section
variable {s : State} (n : CommandNote) (rest : List CommandNote)

theorem handleCommandNote_of_run (h : s.eco.state = .run) :
    handleCommandNote n { s with eco := { s.eco with commands := rest } } =
      settleTarget false (judgeAutoIdle s.shp.lastRaw (s.afterNote n rest)) := by
  simp only [handleCommandNote, h]
  rw [← h]
  rfl

theorem handleCommandNote_of_neutral (h : s.eco.state = .autoIdle)
    (hn : allNeutral s.cfg.identity.deadband s.shp.lastRaw = true) :
    handleCommandNote n { s with eco := { s.eco with commands := rest } } = settleTarget false (s.afterNote n rest) := by
  simp only [handleCommandNote, h, hn, if_true]
  rw [← h]
  rfl

theorem handleCommandNote_of_not_neutral (h : s.eco.state = .autoIdle)
    (hn : allNeutral s.cfg.identity.deadband s.shp.lastRaw = false) :
    handleCommandNote n { s with eco := { s.eco with commands := rest } } =
      leaveAutoIdle s.shp.lastRaw (s.afterNote n rest) := by
  simp only [handleCommandNote, h, hn, Bool.false_eq_true, if_false]
  rfl

theorem handleCommandNote_of_fallback (h : s.eco.state = .fallback) :
    handleCommandNote n { s with eco := { s.eco with commands := rest } } = settleTarget false (s.afterNote n rest) := by
  simp only [handleCommandNote, h]
  rw [← h]
  rfl

end

/-- Settles O38: by the economy state, and in AUTO_IDLE by whether all axes are neutral. -/
theorem commandNotificationSettlesTheTarget : Obligations.CommandNotificationSettlesTheTarget := by
  intro s u n rest hp hc hu
  obtain rfl : u = s.afterNote n rest := hu
  refine ⟨_, exec_economyCommandNotify hp hc, fun timer hrun hjudged => ?_, fun hidle hn => ?_, fun hidle hn => ?_,
    fun hfallback => ?_⟩
  · rw [handleCommandNote_of_run n rest hrun, judgeAutoIdle_of_run (s := s.afterNote n rest) hrun hjudged]
    exact settled_settleTarget _ _
  · rw [handleCommandNote_of_neutral n rest hidle ((allNeutral_iff _ _).2 hn)]
    exact settled_settleTarget _ _
  · rw [handleCommandNote_of_not_neutral n rest hidle (allNeutral_eq_false hn)]
    refine ⟨_, settled_settleTarget _ _, judgeAutoIdle_of_not_neutral ?_⟩
    rw [settleTarget_cfg]
    exact allNeutral_eq_false hn
  · rw [handleCommandNote_of_fallback n rest hfallback]
    exact settled_settleTarget _ _

end Sys2Proof.Machine
end

section
/-! The engine request queue: the look at the pending target, the timeouts of the oldest entries once entries have left, and
the timeout event. -/
namespace Sys2Proof.Machine

/-! ## The look at the pending target (R141) -/

theorem lookAtPending_eq_self {s : State}
    (h : s.eng.pendingTarget = none ∨ s.cfg.economy.queueDepth ≤ s.eng.entries.length) : lookAtPending s = s := by
  cases hg : s.eng.pendingTarget with
  | none => simp only [lookAtPending, hg]
  | some g =>
    have hfull : ¬queueHasRoom s = true :=
      mt (queueHasRoom_iff s).1 (Nat.not_lt.2 (h.resolve_left (by simp [hg])))
    simp only [lookAtPending, hg, if_neg hfull]

/-- With room, a pending target other than the last issued one is requested anew (R141). -/
theorem lookAtPending_of_room {s : State} {g : Target} (hg : s.eng.pendingTarget = some g)
    (hr : s.eng.entries.length < s.cfg.economy.queueDepth) :
    lookAtPending s =
      if s.eco.lastIssued = some g then { s with eng := { s.eng with pendingTarget := none } }
      else requestSpeed g { s with eng := { s.eng with pendingTarget := none } } := by
  have hroom : queueHasRoom s = true := (queueHasRoom_iff s).2 hr
  have hrequest : requestSpeed g { s with eng := { s.eng with pendingTarget := none } } =
      issueRequest g { s with eng := { s.eng with pendingTarget := none } } := if_pos hroom
  simp only [lookAtPending, hg, if_pos hroom, hrequest]

theorem pendingLooked_lookAtPending (s : State) : PendingLooked s (lookAtPending s) := by
  refine ⟨lookAtPending_eq_self, fun g hg hr => ⟨fun hl => ?_, fun hl => ?_⟩⟩
  · rw [lookAtPending_of_room hg hr, if_pos hl]
  · rw [lookAtPending_of_room hg hr, if_neg hl]
    exact requested_requestSpeed _ _

/-! ## Timeouts once entries have left (R144 to R146) -/

theorem reached_iff_due (s : State) (e : EngineEntry) : reached s.now e.expiry = true ↔ Due s e := decide_eq_true_iff

theorem afterEntriesLeft_of_empty {s : State} (he : s.eng.entries = []) : afterEntriesLeft s = lookAtPending s := by
  simp only [afterEntriesLeft, he, List.length_nil, runTimeouts]

section
variable {s : State} {e x : EngineEntry} {young : List EngineEntry}

theorem afterEntriesLeft_of_not_due (he : s.eng.entries = e :: young) (hd : ¬Due s e) :
    afterEntriesLeft s = lookAtPending s := by
  simp only [afterEntriesLeft, he, List.length_cons, runTimeouts, mt (reached_iff_due s e).1 hd,
    Bool.false_eq_true, if_false]

/-- The oldest entry on its second attempt is the link fault, which leaves no pending target to look at (R146). -/
theorem afterEntriesLeft_of_second (he : s.eng.entries = e :: young) (hd : Due s e) (hs : e.second = true) :
    afterEntriesLeft s = linkFault e s := by
  simp only [afterEntriesLeft, he, List.length_cons, runTimeouts, (reached_iff_due s e).2 hd, hs, if_true]
  exact lookAtPending_eq_self (.inl rfl)

/-- The oldest entry on its first attempt is reissued when it stands alone (R145). -/
theorem afterEntriesLeft_of_alone (he : s.eng.entries = [e]) (hd : Due s e) (hs : e.second = false) :
    afterEntriesLeft s = lookAtPending (reissue e [] s) := by
  simp only [afterEntriesLeft, he, List.length_cons, runTimeouts, (reached_iff_due s e).2 hd, hs, if_true,
    Bool.false_eq_true, if_false]

theorem runTimeouts_of_followed (n : Nat) (he : s.eng.entries = x :: e :: young) (hd : Due s x) (hs : x.second = false) :
    runTimeouts (n + 1) s =
      runTimeouts n { s with eng := { s.eng with entries := e :: young, skipped := countUp s.eng.skipped } } := by
  simp only [runTimeouts, he, (reached_iff_due s x).2 hd, hs, if_true, Bool.false_eq_true, if_false]

/-- The oldest entry on its first attempt is removed when a younger one stands behind it, and then that one is judged
(R145). -/
theorem afterEntriesLeft_of_followed (he : s.eng.entries = x :: e :: young) (hd : Due s x) (hs : x.second = false) :
    afterEntriesLeft s =
      afterEntriesLeft { s with eng := { s.eng with entries := e :: young, skipped := countUp s.eng.skipped } } := by
  simp only [afterEntriesLeft, he, List.length_cons, runTimeouts_of_followed _ he hd hs]

end

/-- The queue once the entries `gone` before `rest` are removed as SKIPPED (R145). -/
def State.afterSkips (gone rest : List EngineEntry) (s : State) : State :=
  { s with eng := { s.eng with
    entries := rest, skipped := if gone = [] then s.eng.skipped else min (s.eng.skipped + gone.length) 65535 } }

@[simp] theorem State.afterSkips_entries (gone rest : List EngineEntry) (s : State) :
    (s.afterSkips gone rest).eng.entries = rest := rfl

theorem State.afterSkips_nil {s : State} {rest : List EngineEntry} (he : s.eng.entries = rest) :
    s.afterSkips [] rest = s := by
  subst he
  rfl

/-- Removing one entry and then the entries `gone` counts them all. -/
theorem State.afterSkips_cons (x : EngineEntry) (gone rest mid : List EngineEntry) (s : State) :
    State.afterSkips gone rest { s with eng := { s.eng with entries := mid, skipped := countUp s.eng.skipped } } =
      s.afterSkips (x :: gone) rest := by
  have hcount : (if gone = [] then countUp s.eng.skipped else min (countUp s.eng.skipped + gone.length) 65535) =
      min (s.eng.skipped + (x :: gone).length) 65535 := by
    unfold countUp
    split
    · next h => rw [h, List.length_singleton]
    · rw [List.length_cons]
      omega
  simp only [State.afterSkips, hcount, reduceCtorEq, if_false]

/-- First attempts whose instant has been reached and that stand before a younger entry leave as SKIPPED (R145). -/
theorem afterEntriesLeft_afterSkips {gone young : List EngineEntry} {e : EngineEntry} {s : State}
    (he : s.eng.entries = gone ++ e :: young) (hgone : ∀ x ∈ gone, Due s x ∧ x.second = false) :
    afterEntriesLeft s = afterEntriesLeft (s.afterSkips gone (e :: young)) := by
  induction gone generalizing s with
  | nil => exact congrArg afterEntriesLeft (State.afterSkips_nil he).symm
  | cons x gone ih =>
    obtain ⟨hd, hs⟩ := hgone x List.mem_cons_self
    obtain ⟨y, rest, hy⟩ : ∃ y rest, gone ++ e :: young = y :: rest := List.exists_cons_of_ne_nil (by simp)
    rw [List.cons_append, hy] at he
    rw [afterEntriesLeft_of_followed he hd hs, ← State.afterSkips_cons x gone (e :: young) (y :: rest) s]
    exact ih hy.symm fun z hz => hgone z (List.mem_cons_of_mem x hz)

theorem entriesLeft_afterEntriesLeft (s : State) : EntriesLeft s (afterEntriesLeft s) := by
  refine ⟨fun he => ?_, fun gone young e u he hgone hu => ?_⟩
  · rw [afterEntriesLeft_of_empty he]
    exact pendingLooked_lookAtPending s
  · obtain rfl : u = s.afterSkips gone (e :: young) := hu
    have hu := State.afterSkips_entries gone (e :: young) s
    rw [afterEntriesLeft_afterSkips he hgone]
    refine ⟨fun hd => ?_, fun hd hs hy => ?_, fun hd hs => ?_⟩
    · rw [afterEntriesLeft_of_not_due hu hd]
      exact pendingLooked_lookAtPending _
    · subst hy
      rw [afterEntriesLeft_of_alone hu hd hs]
      exact ⟨_, isEngineFrame_engineFrame _ _ _, pendingLooked_lookAtPending _⟩
    · exact afterEntriesLeft_of_second hu hd hs

/-! ## The fresh tag of a reissue (R139, R145) -/

theorem nextTag_ne_self (t : Nat) : nextTag t ≠ t := by
  unfold nextTag
  split <;> omega

theorem allocateTag_ne_of_alone {q : EngineQueue} {e : EngineEntry} (he : q.entries = [e]) : allocateTag q ≠ e.tag := by
  by_cases hheld : nextTag q.lastTag = e.tag
  · simp only [allocateTag, he, freshTag, List.length_singleton, List.map_singleton, hheld, List.contains_cons, BEq.rfl,
      Bool.true_or, if_true]
    exact nextTag_ne_self e.tag
  · simp [allocateTag, he, freshTag, hheld]

/-! ## The timeout event (R144) -/

section
variable {s : State} {e : EngineEntry} {young : List EngineEntry}

theorem exec_engineRequestTimeout_of_due (hp : s.phase = .running) (he : s.eng.entries = e :: young) (hd : Due s e) :
    exec .engineRequestTimeout s = .next (afterEntriesLeft s) := by
  change execEngineRequestTimeout s = _
  simp only [execEngineRequestTimeout, whileRunning_running _ hp, oldestDue, he, (reached_iff_due s e).2 hd, if_true]

theorem exec_engineRequestTimeout_of_not_due (hp : s.phase = .running) (he : s.eng.entries = e :: young)
    (hd : ¬Due s e) : exec .engineRequestTimeout s = .next s := by
  change execEngineRequestTimeout s = _
  simp only [execEngineRequestTimeout, whileRunning_running _ hp, oldestDue, he, mt (reached_iff_due s e).1 hd,
    Bool.false_eq_true, if_false]

end

/-- A sound queue has no room for its pending target when its one entry is reissued: a target is pending only while the
queue is full, and a reissue keeps the number of entries (R140, R145). -/
theorem lookAtPending_reissue_of_alone {s : State} {e : EngineEntry} (hok : EngineOk s) (he : s.eng.entries = [e]) :
    lookAtPending (reissue e [] s) = reissue e [] s := by
  obtain ⟨_, _, _, _, _, _, hpending, _⟩ := hok
  refine lookAtPending_eq_self ?_
  cases hg : s.eng.pendingTarget with
  | none => exact .inl hg
  | some g =>
    rw [hg, he] at hpending
    exact .inr (Nat.le_of_eq (hpending rfl).symm)

/-- Settles O42: the event is the work on entries that have left, by the attempt of the oldest entry and whether it stands
alone. -/
theorem oldestEntryTimesOut : Obligations.OldestEntryTimesOut := by
  intro s e young hp hok he
  refine ⟨fun hearly => exec_engineRequestTimeout_of_not_due hp he (Nat.not_lt.2 hearly), fun hd => ?_⟩
  rw [exec_engineRequestTimeout_of_due hp he hd]
  refine ⟨fun hs hy => ?_, fun hs hy => ?_, fun hs => ?_⟩
  · subst hy
    refine ⟨_, isEngineFrame_engineFrame s _ _, allocateTag_ne_of_alone he, ?_⟩
    rw [afterEntriesLeft_of_alone he hd hs, lookAtPending_reissue_of_alone hok he]
    rfl
  · obtain ⟨y, rest, rfl⟩ := List.exists_cons_of_ne_nil hy
    rw [afterEntriesLeft_of_followed he hd hs]
    exact ⟨_, rfl, entriesLeft_afterEntriesLeft _⟩
  · rw [afterEntriesLeft_of_second he hd hs]
    rfl

end Sys2Proof.Machine
end

section
/-! The notice unit: the bytes of a composed frame with its check byte, the notice frame, the posting check, and what a
raise, a console frame and SET_NOTICE_ENABLE do to the slot. -/
namespace Sys2Proof.Machine

/-! ## Composed frames (R195) -/

/-- The check byte and the filling leave the bytes before byte 7 as they were given. -/
theorem byteAt_composedChecked {j : Nat} (hj : j < 7) (i : CanId) (b : List Byte) :
    byteAt (composedChecked i b).data j = byteAt b j := by
  have hfilled : byteAt ((b ++ List.replicate 8 0).take 8) j = byteAt b j := by
    simp only [byteAt, List.getD_eq_getElem?_getD, List.getElem?_take_of_lt (Nat.lt_succ_of_lt hj)]
    rcases Nat.lt_or_ge j b.length with hin | hout
    · rw [List.getElem?_append_left hin]
    · rw [List.getElem?_append_right hout, List.getElem?_replicate_of_lt (by omega), List.getElem?_eq_none hout]
      rfl
  rw [← hfilled]
  exact byteAt_congr (closeCheck_getElem?_ne (Nat.ne_of_lt hj) _)

theorem halfAt_composedChecked {j : Nat} (hj : j < 6) (i : CanId) (b : List Byte) :
    halfAt (composedChecked i b).data j = halfAt b j := by
  simp only [halfAt, byteAt_composedChecked (Nat.lt_succ_of_lt hj), byteAt_composedChecked (Nat.succ_lt_succ hj)]

theorem byteSum_composedChecked (i : CanId) (b : List Byte) : byteSum (composedChecked i b).data = 0 :=
  byteSum_closeCheck (by simp)

/-- Two bytes and two 16-bit values at the front of a composed frame read back as they were given. -/
theorem composedChecked_fields (i : CanId) (x y : Byte) (v w : Half) (rest : List Byte) {d : List Byte}
    (hd : d = (composedChecked i ([x, y] ++ halfBytes v ++ halfBytes w ++ rest)).data) :
    byteAt d 0 = x ∧ byteAt d 1 = y ∧ halfAt d 2 = v ∧ halfAt d 4 = w := by
  subst hd
  exact ⟨byteAt_composedChecked (by decide) _ _, byteAt_composedChecked (by decide) _ _,
    (halfAt_composedChecked (by decide) _ _).trans (half_hiByte_loByte _),
    (halfAt_composedChecked (by decide) _ _).trans (half_hiByte_loByte _)⟩

/-! ## The notice frame (R175) -/

theorem maskable_iff (k : Nat) : maskable k = true ↔ 4 ≤ k := decide_eq_true_iff

theorem maskable_eq_false_iff (k : Nat) : maskable k = false ↔ k < 4 := decide_eq_false_iff_not.trans Nat.not_le

theorem flagOf_not_maskable (k : Nat) : flagOf (!maskable k) = if k < 4 then 1 else 0 := by
  by_cases h : k < 4
  · rw [(maskable_eq_false_iff k).2 h, if_pos h]
    rfl
  · rw [(maskable_iff k).2 (Nat.not_lt.1 h), if_neg h]
    rfl

theorem halfOf_itemCode (t : Tables) (k : Nat) :
    halfOf (itemCode t k) = if 12 ≤ k ∧ k < 44 then halfOf (t.item (k - 12)).code else 0 :=
  apply_ite halfOf _ _ _

theorem noticeFrame_of_empty {v : NoticeUnit} (h : v.slot = none) (t : Tables) (fresh : Bool) :
    noticeFrame t v fresh = composedChecked t.identity.notice
      ([255, byteOf (2 * flagOf fresh)] ++ halfBytes 0 ++ halfBytes 0 ++ [byteOf (v.counter % 16)]) := by
  have hnone : flagOf (!maskable 255) + 2 * flagOf fresh = 2 * flagOf fresh := Nat.zero_add _
  simp only [noticeFrame, h, hnone]
  rfl

theorem noticeFrame_of_slot {v : NoticeUnit} {n : Notice} (h : v.slot = some n) (t : Tables) (fresh : Bool) :
    noticeFrame t v fresh = composedChecked t.identity.notice
      ([byteOf n.source, byteOf ((if n.source < 4 then 1 else 0) + 2 * flagOf fresh)] ++ halfBytes (halfOf n.argument) ++
        halfBytes (if 12 ≤ n.source ∧ n.source < 44 then halfOf (t.item (n.source - 12)).code else 0) ++
        [byteOf (v.counter % 16)]) := by
  simp only [noticeFrame, h, flagOf_not_maskable, halfOf_itemCode]

theorem isNoticeFrame_noticeFrame (s : State) (fresh : Bool) :
    IsNoticeFrame s fresh s.ntc.counter (noticeFrame s.cfg s.ntc fresh) := by
  refine ⟨rfl, composedChecked_length _ _, byteSum_composedChecked _ _, byteAt_composedChecked (by decide) _ _,
    fun hslot => ?_, fun n hslot => ?_⟩
  · rw [noticeFrame_of_empty hslot]
    exact composedChecked_fields _ _ _ _ _ _ rfl
  · rw [noticeFrame_of_slot hslot]
    exact composedChecked_fields _ _ _ _ _ _ rfl

theorem noticeSent_sendNotice (fresh : Bool) (s : State) : NoticeSent fresh s (sendNotice fresh s) :=
  ⟨_, isNoticeFrame_noticeFrame s fresh, rfl⟩

/-! ## Posting (R173) -/

theorem ready_iff (v : NoticeUnit) (k : Nat) : Ready v k ↔ k < 44 ∧ ((v.source k).pending && eligible v k) = true := by
  simp [Ready, eligible, maskable]

theorem nextSource_eq_none_iff (v : NoticeUnit) : nextSource v = none ↔ ∀ k, ¬Ready v k := by
  simp only [nextSource, List.find?_eq_none, List.mem_range, ready_iff, not_and]

theorem nextSource_eq_some_iff (v : NoticeUnit) (k : Nat) : nextSource v = some k ↔ FirstReady v k := by
  rw [nextSource, List.find?_range_eq_some, FirstReady, ready_iff, List.mem_range]
  constructor
  · rintro ⟨hready, hk, hfirst⟩
    refine ⟨⟨hk, hready⟩, fun j hj hr => ?_⟩
    have hnot := hfirst j hj
    rw [((ready_iff v j).1 hr).2] at hnot
    exact absurd hnot nofun
  · rintro ⟨⟨hk, hready⟩, hfirst⟩
    refine ⟨hready, hk, fun j hj => ?_⟩
    rw [Bool.not_eq_true']
    exact Bool.eq_false_iff.2 fun hr => hfirst j hj ((ready_iff v j).2 ⟨Nat.lt_trans hj hk, hr⟩)

theorem posted_post (k : Nat) (s : State) : Posted k s (post k s) := noticeSent_sendNotice true _

section
variable {s : State}

theorem postingCheck_of_filled (h : s.ntc.slot.isSome = true) : postingCheck s = s := by
  obtain ⟨n, hn⟩ := Option.isSome_iff_exists.1 h
  simp only [postingCheck, hn]

theorem postingCheck_of_firstReady {k : Nat} (h : s.ntc.slot = none) (hk : FirstReady s.ntc k) :
    postingCheck s = post k s := by
  simp only [postingCheck, h, (nextSource_eq_some_iff s.ntc k).2 hk]

theorem postingCheck_of_none_ready (h : s.ntc.slot = none) (hn : ∀ k, ¬Ready s.ntc k) : postingCheck s = s := by
  simp only [postingCheck, h, (nextSource_eq_none_iff s.ntc).2 hn]

theorem postingChecked_postingCheck (h : s.ntc.slot = none) : PostingChecked s (postingCheck s) := by
  refine ⟨fun k hk => ?_, postingCheck_of_none_ready h⟩
  rw [postingCheck_of_firstReady h hk]
  exact posted_post k s

/-! ## Raises (R172, R176) -/

/-- The state once a raise has set the pending flag and the argument of its source (R172). -/
def pendingRaised (k a : Nat) (s : State) : State :=
  s.setNotice (s.ntc.update k fun x => { x with pending := true, argument := a })

theorem exec_noticeRaise {k a : Nat} {rest : List NoticeMessage} (hp : s.phase = .running)
    (hm : s.ntc.messages = .raise k a :: rest) :
    exec .noticeRaise s = .next (takeRaise k a { s with ntc := { s.ntc with messages := rest } }) := by
  change execNoticeRaise s = _
  simp only [execNoticeRaise, whileRunning_running _ hp, hm]

variable {k a : Nat}

theorem takeRaise_of_empty (h : s.ntc.slot = none) : takeRaise k a s = postingCheck (pendingRaised k a s) := by
  simp only [takeRaise, pendingRaised, State.setNotice_ntc, NoticeUnit.update, h]

variable {n : Notice}

/-- A non-maskable source preempts a maskable notice, and the posting check follows (R176). -/
theorem takeRaise_of_preempting (h : s.ntc.slot = some n) (hn : 4 ≤ n.source) (hk : k < 4) :
    takeRaise k a s =
      postingCheck ((pendingRaised k a s).setNotice (emptyByPreemption (pendingRaised k a s).ntc n.source)) := by
  have hpreempts : (maskable n.source && !maskable k) = true := by
    rw [(maskable_iff n.source).2 hn, (maskable_eq_false_iff k).2 hk]
    rfl
  simp only [takeRaise, pendingRaised, State.setNotice_ntc, NoticeUnit.update, h, if_pos hpreempts]

theorem takeRaise_of_not_preempting (h : s.ntc.slot = some n) (hnk : n.source < 4 ∨ 4 ≤ k) :
    takeRaise k a s = pendingRaised k a s := by
  have hstays : ¬(maskable n.source && !maskable k) = true := by
    rw [Bool.and_eq_true, Bool.not_eq_true', maskable_iff, maskable_eq_false_iff]
    omega
  simp only [takeRaise, pendingRaised, State.setNotice_ntc, NoticeUnit.update, h, if_neg hstays]

end

/-- Settles O49: the raise is taken on an empty slot, on one that it preempts, or on one that it leaves. -/
theorem raiseActsOnTheSlot : Obligations.RaiseActsOnTheSlot := by
  rintro s u k a rest hp - - hm rfl
  rw [exec_noticeRaise hp hm]
  exact ⟨fun hslot => ⟨_, congrArg _ (takeRaise_of_empty hslot), postingChecked_postingCheck hslot⟩,
    fun n hslot => ⟨fun ⟨hn, hk⟩ =>
      ⟨_, congrArg _ (takeRaise_of_preempting hslot hn hk), postingChecked_postingCheck rfl⟩,
    fun hnk => congrArg _ (takeRaise_of_not_preempting hslot hnk)⟩⟩

/-! ## The console frame (R177, R178) -/

section
variable {d : List Byte} {v : NoticeUnit}

theorem consoleTaken_of_no_ack (h : (byteAt d 3).toNat = 255) : consoleTaken d v = { v with mute := consoleMute d } :=
  if_pos h

theorem acknowledges_iff (v : NoticeUnit) (k : Nat) : acknowledges v k = true ↔ ∃ n, v.slot = some n ∧ n.source = k := by
  cases h : v.slot <;> simp [acknowledges, h]

theorem consoleTaken_of_ack (h : (byteAt d 3).toNat ≠ 255) (ha : ∃ n, v.slot = some n ∧ n.source = (byteAt d 3).toNat) :
    consoleTaken d v = { v with
      mute := consoleMute d, slot := none
      sources := v.sources.set (byteAt d 3).toNat { v.source (byteAt d 3).toNat with enabled := true } } :=
  (if_neg h).trans (if_pos ((acknowledges_iff { v with mute := consoleMute d } _).2 ha))

theorem consoleTaken_of_mismatch (h : (byteAt d 3).toNat ≠ 255)
    (ha : ∀ n, v.slot = some n → n.source ≠ (byteAt d 3).toNat) :
    consoleTaken d v = { v with mute := consoleMute d, mismatches := min (v.mismatches + 1) 65535 } :=
  (if_neg h).trans (if_neg fun hk =>
    let ⟨n, hn, hs⟩ := (acknowledges_iff { v with mute := consoleMute d } _).1 hk
    ha n hn hs)

variable {s : State}

theorem exec_noticeConsole (hp : s.phase = .running) (hd : s.ntc.inbox.inHand = some d) :
    exec .noticeConsole s = .next (noticeConsole d { s with ntc := { s.ntc with inbox := s.ntc.inbox.finish } }) := by
  change execNoticeConsole s = _
  simp only [execNoticeConsole, whileRunning_running _ hp, hd]

/-- A notice that stays in the slot is refreshed (R175, R177). -/
theorem noticeConsole_of_filled (h : (consoleTaken d s.ntc).slot.isSome = true) :
    noticeConsole d s = sendNotice false (s.setNotice (consoleTaken d s.ntc)) := by
  obtain ⟨n, hn⟩ := Option.isSome_iff_exists.1 h
  simp only [noticeConsole, hn]

/-- A source that is ready is posted to the empty slot, and no other frame is sent (R173, R177). -/
theorem noticeConsole_of_ready (h : (consoleTaken d s.ntc).slot = none) (hr : ∃ k, Ready (consoleTaken d s.ntc) k) :
    noticeConsole d s = postingCheck (s.setNotice (consoleTaken d s.ntc)) := by
  cases hn : nextSource (consoleTaken d s.ntc) with
  | none =>
    obtain ⟨k, hk⟩ := hr
    exact absurd hk ((nextSource_eq_none_iff _).1 hn k)
  | some k =>
    rw [postingCheck_of_firstReady h ((nextSource_eq_some_iff _ k).1 hn)]
    simp only [noticeConsole, h, hn]

/-- With no source ready, the empty frame marks a slot that this console frame has emptied (R175). -/
theorem noticeConsole_of_none_ready (h : (consoleTaken d s.ntc).slot = none)
    (hr : ∀ k, ¬Ready (consoleTaken d s.ntc) k) :
    noticeConsole d s = if s.ntc.slot.isSome then sendNotice false (s.setNotice (consoleTaken d s.ntc))
      else s.setNotice (consoleTaken d s.ntc) := by
  simp only [noticeConsole, h, (nextSource_eq_none_iff _).2 hr]

end

/-- What the console frame sends, by the slot it leaves and by the sources that are ready (R173, R175, R177). -/
theorem noticeConsole_spec {s u : State} {d : List Byte} (hu : u = s.setNotice (consoleTaken d s.ntc)) :
    (u.ntc.slot.isSome = true → NoticeSent false u (noticeConsole d s)) ∧
    (u.ntc.slot = none → (∃ k, Ready u.ntc k) → PostingChecked u (noticeConsole d s)) ∧
    (u.ntc.slot = none → (∀ k, ¬Ready u.ntc k) → s.ntc.slot.isSome = true → NoticeSent false u (noticeConsole d s)) ∧
    (u.ntc.slot = none → (∀ k, ¬Ready u.ntc k) → s.ntc.slot = none → noticeConsole d s = u) := by
  subst hu
  refine ⟨fun hslot => ?_, fun hslot hr => ?_, fun hslot hr hs => ?_, fun hslot hr hs => ?_⟩
  · rw [noticeConsole_of_filled hslot]
    exact noticeSent_sendNotice false _
  · rw [noticeConsole_of_ready hslot hr]
    exact postingChecked_postingCheck hslot
  · rw [noticeConsole_of_none_ready hslot hr, if_pos hs]
    exact noticeSent_sendNotice false _
  · rw [noticeConsole_of_none_ready hslot hr, hs]
    rfl

/-! ## Enables (R180) -/

section
variable {s : State} {m : ManagementFrame}

theorem exec_setNoticeEnable (hr : RequestInHand s m 15) (hb : s.mgt.progress = none) :
    exec .setNoticeEnable s = .next (enableRequest m s.finishManagement) := by
  obtain ⟨hp, hm, hl, hc⟩ := hr
  have hfree : s.finishManagement.mgt.progress.isSome = false := by simp [hb]
  change execSetNoticeEnable s = _
  rw [execSetNoticeEnable, takeRequest_taken hp hm hl (by simp [hc]), unlessBusy, hfree]
  rfl

theorem enableRequest_of_no_source (h : 44 ≤ (byteAt m.data 2).toNat) : enableRequest m s = answer m .badIndex [] s :=
  if_pos h

theorem enableRequest_of_nonmaskable (h : (byteAt m.data 2).toNat < 4) :
    enableRequest m s = answer m .notAllowed [] s :=
  (if_neg (show ¬44 ≤ (byteAt m.data 2).toNat by omega)).trans (if_pos ((maskable_eq_false_iff _).2 h))

variable (h : 4 ≤ (byteAt m.data 2).toNat) (h' : (byteAt m.data 2).toNat < 44)
include h h'

theorem enableRequest_of_bad_value (hv : flagFrom (byteAt m.data 3).toNat = none) :
    enableRequest m s = answer m .badValue [] s := by
  simp only [enableRequest, requestByte, if_neg (Nat.not_le.2 h'), (maskable_iff _).2 h, Bool.true_eq_false, if_false, hv]

theorem enableRequest_of_flag {on : Bool} (hv : flagFrom (byteAt m.data 3).toNat = some on) :
    enableRequest m s = answer m .ok [] (setEnable (byteAt m.data 2).toNat on s) := by
  simp only [enableRequest, requestByte, if_neg (Nat.not_le.2 h'), (maskable_iff _).2 h, Bool.true_eq_false, if_false, hv]

end

theorem flagFrom_eq_none {n : Nat} (h : 2 ≤ n) : flagFrom n = none := by
  match n, h with
  | _ + 2, _ => rfl

/-- Settles O50: a console frame by its acknowledgement, then by the slot it leaves; a request by its source and
its value. -/
theorem consoleAndEnablesGovernTheNotices : Obligations.ConsoleAndEnablesGovernTheNotices := by
  constructor
  · rintro s u d ack hp - hd rfl hnone hack hmismatch
    have hu : u = State.setNotice { s with ntc := { s.ntc with inbox := s.ntc.inbox.finish } }
        (consoleTaken d { s.ntc with inbox := s.ntc.inbox.finish }) := by
      by_cases hne : (byteAt d 3).toNat = 255
      · rw [hnone hne, consoleTaken_of_no_ack hne]
        rfl
      · by_cases ha : ∃ n, s.ntc.slot = some n ∧ n.source = (byteAt d 3).toNat
        · rw [hack hne ha, consoleTaken_of_ack hne]
          · rfl
          · exact ha
        · have ha' : ∀ n, s.ntc.slot = some n → n.source ≠ (byteAt d 3).toNat := fun n hn hs => ha ⟨n, hn, hs⟩
          rw [hmismatch hne ha', consoleTaken_of_mismatch hne]
          · rfl
          · exact ha'
    exact ⟨_, exec_noticeConsole hp hd, noticeConsole_spec hu⟩
  · rintro s s1 m k hr hb - rfl rfl
    rw [exec_setNoticeEnable hr hb]
    refine ⟨fun hk => ?_, fun hk => ?_, fun hk hk' => ⟨fun hv => ?_, fun hv => ?_, fun hv => ?_⟩⟩
    · rw [enableRequest_of_no_source hk]
    · rw [enableRequest_of_nonmaskable hk]
    · rw [enableRequest_of_bad_value hk hk' (flagFrom_eq_none hv)]
    · rw [enableRequest_of_flag hk hk' (on := false) (by rw [hv]; rfl)]
      rfl
    · rw [enableRequest_of_flag hk hk' (on := true) (by rw [hv]; rfl)]
      exact ⟨_, postingCheck _, rfl, rfl, fun hslot => postingChecked_postingCheck hslot,
        fun hslot => postingCheck_of_filled hslot⟩

end Sys2Proof.Machine
end
